-- ==== Sys2Proof/Word.lean ====
section
/-!
DEFINITION. The word types of the LZ20: the converter's 12-bit counts, the 16-bit data words of a frame, and the
cause and pin sets that software reads whole.
-/
namespace Sys2Proof

/-- Raw counts of the converter, 0 to 4095 (R4, R8). -/
abbrev Counts := BitVec 12

/-- The 16 data bits of an element, and the check word (R37, R38). -/
abbrev Word16 := BitVec 16

/-- A window code of the setup port: the class in the upper four bits, the index in the lower four (R163). -/
abbrev Code := BitVec 8

/-- A run of bits in the order they are sent, the first one sent at the head. -/
abbrev Bits := List Bool

end Sys2Proof
end

