-- ==== Sys2Proof/Syntax.lean ====
section
/-!
DEFINITION. The names the manual gives to values (Table 1-6 and the tables of the chapters), a frame as it stands on
the arena line (R37, Tables 12-1 and 12-2), and `Instr`: one constructor for each row of spec/opcode_table.json.
-/
namespace Sys2Proof

/-- The phase of the event (Table 1-6). -/
inductive Phase where
  /-- IDLE, code 0. -/
  | idle
  /-- PLAY, code 1. -/
  | play
  /-- INTERVAL, code 2. -/
  | interval
  /-- SHOW, code 3. -/
  | showPhase
  /-- NIGHT, code 4. -/
  | night
deriving DecidableEq, Repr

/-- The fog states, ordered by their codes (Table 1-6). -/
inductive FogLevel where
  /-- CLEAR, code 0. -/
  | clear
  /-- WATCH, code 1. -/
  | watch
  /-- ACT, code 2. -/
  | act
  /-- FOG, code 3. -/
  | fog
deriving DecidableEq, Repr

/-- The heat classes, served in this order (Table 1-6, R103). -/
inductive HeatClass where
  | heave
  | dry
  | stand
  | melt
deriving DecidableEq, Repr

/-- The judgement of a measurement channel (R11, R13). -/
inductive Quality where
  | good
  | doubt
  | failed
deriving DecidableEq, Repr

/-- The kind of a measurement channel (Table 1-7). -/
inductive ChannelKind where
  | temp
  | humid
  | flow
  | beam
  | unused
deriving DecidableEq, Repr

/-- The bindings other than NONE (Table 1-8); NONE is the absent binding. -/
inductive Binding where
  | iceSurface
  | iceLayerAir
  | bowlAirT
  | bowlAirRh
  | sourceSupplyT
  | sourceReturnT
  | sourceFlow
  /-- LOOP0_T to LOOP3_T. -/
  | loopT (n : Fin 4)
  | fogBeam
deriving DecidableEq, Repr

/-- How a channel's zero correction was obtained at the last start (Table 1-9). -/
inductive ZeroState where
  /-- NONE: auto-zero was off, or no start has taken place. -/
  | notTaken
  /-- MEASURING. -/
  | measuring
  /-- DONE. -/
  | done
  /-- OUT_OF_RANGE. -/
  | outOfRange
deriving DecidableEq, Repr

/-- The kind of a MUTE (R153). -/
inductive MuteKind where
  | clash
  | stuck
deriving DecidableEq, Repr

/-- The node state (R153); MUTE carries its kind. -/
inductive NodeState where
  | unset
  | starting
  | listen
  | run
  | mute (k : MuteKind)
deriving DecidableEq, Repr

/-- The last reset kind (R154, R158). -/
inductive ResetKind where
  | power
  | pin
  | restart
deriving DecidableEq, Repr

/-- The start fault codes of Table 10-2, in the order of their codes. -/
inductive StartFault where
  /-- NONE, code 0. -/
  | noFault
  | address
  | bindingRepeated
  | bindingKind
  | bindingUnused
  | sourceBinding
  | loopTemperature
  | valveGenerator
  | backupPin
  | pinFunction
  | iceMargin
  | fogThreshold
deriving DecidableEq, Repr

/-- The twelve causes, in the order of their index (Table 12-11). -/
inductive Cause where
  | addressClash
  | lineStuck
  | lineDegraded
  | frameDropped
  | cueDropped
  | peerOverflow
  | sensorFailed
  | zeroRange
  | iceWarm
  | fogVisible
  | backupOn
  | phaseSplit
deriving DecidableEq, Repr

/-- The ice state (R62). -/
inductive IceState where
  | firm
  | soft
  | warm
deriving DecidableEq, Repr

/-- The kinds of a loop's demand (R100). -/
inductive DemandKind where
  | computed
  | computedDoubt
  | held
  | fallback
deriving DecidableEq, Repr

/-- The state of a lighting channel's fade (R124). -/
inductive FadeState where
  | idle
  | fading
  | held
deriving DecidableEq, Repr

/-- The two level slots of a generator (R132). -/
inductive Slot where
  | a
  | b
deriving DecidableEq, Repr

/-- The strobe phase of a dimmer generator (R137). -/
inductive StrobePhase where
  | onTime
  | offTime
deriving DecidableEq, Repr

/-- The functions of a field pin (Table 9-1). -/
inductive PinFunction where
  | dimmer (n : Fin 8)
  | valve (n : Fin 4)
  | backup (n : Fin 4)
  | cueIn (n : Fin 2)
  | fan
  | attention
  | outHigh
  | outLow
  | input
deriving DecidableEq, Repr

/-- The drive mode of a field pin (Table 9-1). -/
inductive DriveMode where
  | pushPull
  | openDrain
deriving DecidableEq, Repr

/-- The polarity of a field pin (Table 9-1). -/
inductive Polarity where
  | normal
  | inverted
deriving DecidableEq, Repr

/-- What the board and the outside device do to one pin (R147): they hold nothing at it, hold it low or high where the
node does not drive it, or overpower whatever drive the node gives it. -/
inductive BoardLevel where
  | opened
  | low
  | high
  | forcedLow
  | forcedHigh
deriving DecidableEq, Repr

/-- The level the outside holds at each of the 24 pins at one instant. -/
abbrev Board := Vector BoardLevel 24

/-- A generator: DG0 to DG7 or VG0 to VG3 (Table 8-2). -/
inductive GeneratorId where
  | dimmer (n : Fin 8)
  | valve (n : Fin 4)
deriving DecidableEq, Repr

/-- The level of the select line PSEL, which is active low (R162). -/
inductive SelectLevel where
  | low
  | high
deriving DecidableEq, Repr

/-- The kinds of frame (Table 3-2, Table 12-1). -/
inductive FrameKind where
  | status
  | cue
  | fog
  | recall
deriving DecidableEq, Repr

/-- An element of a frame: 16 data bits, the END marker and the DOUBT marker (R37, Table 12-2). -/
structure Element where
  data : Word16
  endMark : Bool
  doubt : Bool
deriving DecidableEq, Repr

/-- A frame as it stands on the line after its start mark (R37, Table 12-1): the header's four fields, the elements
and the check word. -/
structure Frame where
  kind : FrameKind
  sender : BitVec 6
  sequence : BitVec 4
  count : BitVec 4
  elements : List Element
  check : Word16
deriving DecidableEq, Repr

/-- A reception that R51 or R50 calls an invalid frame: a complete frame, or one cut short after the issue window by an
empty bit time after `bits` of its bits. -/
inductive BadReception where
  | complete (f : Frame)
  | cutShort (bits : Nat)
deriving DecidableEq, Repr

/-- A reception that R50 calls a fragment: a start mark that is not two 1 bits, or a reception cut short inside the
issue window after `bits` of its bits. -/
inductive FragmentForm where
  | badStartMark
  | cutShort (bits : Nat)
deriving DecidableEq, Repr

/-- How an attempt failed (R45). -/
inductive AttemptFailure where
  | collision
  | disturbance
deriving DecidableEq, Repr

/-- The commands of the LZ20: one constructor for each row of spec/opcode_table.json, in the table's order. A row that
names one case of a step carries the operands of that step. -/
inductive Instr where
  /-- POWER_ON (R154), with the level of PSEL when power has risen (R162). -/
  | powerOn (psel : SelectLevel)
  /-- RESET_PIN_ASSERTION (R154). -/
  | resetPinAssertion
  /-- RESET_PIN_RELEASE (R154), with the level of PSEL at the release (R162). -/
  | resetPinRelease (psel : SelectLevel)
  /-- START (R155, R168): the exact-length transaction on ACTION 0. -/
  | start
  /-- RESTART (R158, R168): the exact-length transaction on ACTION 1. -/
  | restart
  /-- ACK (R169): the exact-length transaction on ACTION 2. -/
  | ack
  /-- PULSE n (R149, R168): the exact-length transaction on ACTION 3 + n. -/
  | pulse (n : Fin 2)
  /-- CAUSES_SNAPSHOT (R164): a transaction on SNAP 6 with the PDI bits taken in SHIFT. -/
  | causesSnapshot (pdi : Bits)
  /-- CONFIGURATION_WRITE (R167): an exact-length transaction on a configuration window. -/
  | configurationWrite (code : Code) (pdi : Bits)
  /-- SCENE_WRITE (R165): a transaction on the SCENE window. -/
  | sceneWrite (pdi : Bits)
  /-- UNKNOWN_CODE (R163): a transaction under a code that names no window. -/
  | unknownCode (code : Code) (pdi : Bits)
  /-- DISCARDED_LENGTH (R166): a transaction that ends in CODE, or has the wrong length; all its PDI bits, the code
  bits first. -/
  | discardedLength (pdi : Bits)
  /-- ZERO_REFERENCE_CONVERSION (R5) of channel n. -/
  | zeroReferenceConversion (n : Fin 12) (raw : Counts)
  /-- ZERO_MEASUREMENT_COMPLETE (R5): the eighth reference conversion of channel n. -/
  | zeroMeasurementComplete (n : Fin 12) (raw : Counts)
  /-- SCAN (R7): a new scan begins. -/
  | scan
  /-- CHANNEL_CONVERSION (R8) of channel n. -/
  | channelConversion (n : Fin 12) (raw : Counts)
  /-- SENSOR_FAILED (R13): the conversion at which channel n becomes FAILED. -/
  | sensorFailed (n : Fin 12) (raw : Counts)
  /-- CHANNEL_RECOVERY (R14): the conversion at which channel n recovers. -/
  | channelRecovery (n : Fin 12) (raw : Counts)
  /-- STATUS_PERIOD_EXPIRY (R17). -/
  | statusPeriodExpiry
  /-- PHASE_SPLIT (R33): the period expiry at which the split counter of the entry at `address` reaches 3. -/
  | phaseSplit (address : Nat)
  /-- ENTER_RUN (R18): the period expiry at which the node enters RUN. -/
  | enterRun
  /-- AGEING_STEP (R28). -/
  | ageingStep
  /-- ENTRY_STALE (R28): the ageing step at which the entry at `address` becomes STALE. -/
  | entryStale (address : Nat)
  /-- ENTRY_LOST (R29): the ageing step at which the entry at `address` is removed. -/
  | entryLost (address : Nat)
  /-- STATUS_RECEIVED (R24 to R27): a valid STATUS completes on the line. -/
  | statusReceived (f : Frame)
  /-- FOG_RECEIVED (R30): a valid FOG completes on the line. -/
  | fogReceived (f : Frame)
  /-- CUE_RECEIVED (R117, R118): a valid CUE without the replay mark completes on the line. -/
  | cueReceived (f : Frame)
  /-- REPLAY_RECEIVED (R129): a valid CUE with the replay mark completes on the line. -/
  | replayReceived (f : Frame)
  /-- RECALL_RECEIVED (R128): a valid RECALL completes on the line. -/
  | recallReceived (f : Frame)
  /-- INVALID_FRAME (R50, R51). -/
  | invalidFrame (r : BadReception)
  /-- FRAGMENT (R50). -/
  | fragment (r : FragmentForm)
  /-- RELEASE (R36). -/
  | release
  /-- DEFER (R39, R41): another station's lead on an idle line. -/
  | defer
  /-- SLOT_START (R41): the next slot of the slot count starts. -/
  | slotStart
  /-- COLLISION (R42). -/
  | collision
  /-- DISTURBANCE (R43). -/
  | disturbance
  /-- FRAME_DROP (R45): the failure of an attempt at number 15. -/
  | frameDrop (how : AttemptFailure)
  /-- WHOLE_SEND (R44). -/
  | wholeSend
  /-- STUCK_LINE (R54). -/
  | stuckLine
  /-- STUCK_LINE_END (R54). -/
  | stuckLineEnd
  /-- ICE_EVALUATION (R59). -/
  | iceEvaluation
  /-- FLOOD_END (R64): the ice evaluation at which the flood ends. -/
  | floodEnd
  /-- ICE_WARM (R62): the ice evaluation at which the ice state becomes WARM. -/
  | iceWarm
  /-- ICE_HOLD_END (R61): the ice evaluation at which the failure count reaches 61. -/
  | iceHoldEnd
  /-- FOG_EVALUATION (R75). -/
  | fogEvaluation
  /-- BEAM_FOG_SET (R80): the fog evaluation at which beam fog is set. -/
  | beamFogSet
  /-- BEAM_FOG_CLEAR (R81): the fog evaluation at which the clear run ends beam fog. -/
  | beamFogClear
  /-- MARGIN_UNAVAILABLE (R77): the fog evaluation at which the failure count reaches 61. -/
  | marginUnavailable
  /-- BACKUP_EXPIRY (R107). -/
  | backupExpiry
  /-- BACKUP_ON (R108): the backup expiry at which loop n's backup condition turns ON. -/
  | backupOn (n : Fin 4)
  /-- LOOP_FALLBACK (R99): loop n's failure timer reaches 60 s. -/
  | loopFallback (n : Fin 4)
  /-- FADE_STEP (R124). -/
  | fadeStep
  /-- PENDING_CUE_EXPIRY (R120): the fade step at which a pending cue's remaining wait reaches 0. -/
  | pendingCueExpiry
  /-- FADE_END (R124): the fade step at which channel n's fade ends. -/
  | fadeEnd (n : Fin 8)
  /-- CAP_STEP (R127). -/
  | capStep
  /-- CUE_INPUT_SAMPLE (R148), with what the outside holds at the pins. -/
  | cueInputSample (board : Board)
  /-- CUE_INPUT_ARM (R148): the sample at which cue input n arms. -/
  | cueInputArm (n : Fin 2) (board : Board)
  /-- ACCEPTED_EDGE (R149): the sample at which cue input n's debounced level changes. -/
  | acceptedEdge (n : Fin 2) (board : Board)
  /-- GENERATOR_PERIOD_START (R135). -/
  | generatorPeriodStart (g : GeneratorId)
  /-- GENERATOR_COUNT_REACHES_LEVEL (R136). -/
  | generatorCountReachesLevel (g : GeneratorId)
  /-- STROBE_TIMER_EXPIRY (R138) of dimmer generator n. -/
  | strobeTimerExpiry (n : Fin 8)
  /-- VALID_FRAME_OWN_ADDRESS (R55): a valid frame bearing the own address completes on the line. -/
  | validFrameOwnAddress (f : Frame)
  /-- READ_ONLY_WINDOW_TRANSACTION (R166) on IDENT, SNAP 0 to SNAP 5 or PEER, with what the outside holds at the pins at
  the capture. -/
  | readOnlyWindowTransaction (code : Code) (pdi : Bits) (board : Board)
  /-- PSEL_SEEN_HIGH (R162). -/
  | pselSeenHigh
deriving DecidableEq, Repr

end Sys2Proof
end

