-- ==== Sys2Proof/Machine/Bits.lean ====
section
/-!
DEFINITION. Bit fields, two's complement and clamping (sections 1.7.2 and 12.1, R171): every bit-level layout of the
model is written with the functions of this file.
-/
namespace Sys2Proof.Machine

/-- `x` "clamped to lo to hi" (section 1.7.1). -/
def clamp (lo hi x : Int) : Int := max lo (min hi x)

/-- The `n` bits of `v`, most significant first: the order in which every field is sent (R37, R162). -/
def bitsOfNat : Nat → Nat → Bits
  | 0, _ => []
  | n + 1, v => (v / 2 ^ n % 2 == 1) :: bitsOfNat n v

/-- The number whose bits, most significant first, are the list; `acc` is what was read before. -/
def natOfBitsFrom (acc : Nat) : Bits → Nat
  | [] => acc
  | b :: rest => natOfBitsFrom (2 * acc + b.toNat) rest

/-- The number that a run of bits spells in plain binary, most significant bit first (R171). -/
def natOfBits (bs : Bits) : Nat := natOfBitsFrom 0 bs

/-- Bits hi to lo of a window's data, numbered from 0 at the least significant bit (chapter 12). -/
def field (data hi lo : Nat) : Nat := data / 2 ^ lo % 2 ^ (hi + 1 - lo)

/-- Bit i of a window's data as a flag: 1 for set (R171). -/
def flagBit (data i : Nat) : Bool := data / 2 ^ i % 2 == 1

/-- A 16-bit two's complement field as a number (R171). -/
def signed16 (v : Nat) : Int := if v < 32768 then (v : Int) else (v : Int) - 65536

/-- A number as a two's complement field of `n` bits (R171). -/
def toField (n : Nat) (x : Int) : Nat := (x % (2 ^ n : Int)).toNat

/-- The fields of a window or header, each a width and a value, as bits in the order they are sent. -/
def packFields : List (Nat × Nat) → Bits
  | [] => []
  | (w, v) :: rest => bitsOfNat w v ++ packFields rest

/-- A number taken at the nearest end of its range, with whether that changed it (R167, step 3). -/
def clampField (lo hi v : Int) : Int × Bool := (clamp lo hi v, clamp lo hi v != v)

/-- `clampField` for a field that is never negative. -/
def clampNat (lo hi v : Nat) : Nat × Bool := (max lo (min hi v), max lo (min hi v) != v)

/-- floor(x / y) for a divisor of 0 or above, as section 1.7.2 rounds every division: toward minus infinity. -/
def floorDiv (x y : Int) : Int := Int.fdiv x y

/-- A division "truncated toward zero" (R67, R124). -/
def truncDiv (x y : Int) : Int := Int.tdiv x y

/-- The least of a list of caps, with a start value. -/
def minOf (start : Nat) : List Nat → Nat
  | [] => start
  | c :: rest => min c (minOf start rest)

end Sys2Proof.Machine
end

