-- ==== Sys2Proof/Machine/Frames.lean ====
section
/-!
DEFINITION. Frames (chapter 3 section 3.2, chapter 12 section 12.2): the codes of the enumerations, the check word, the
validity of a complete frame, and what a STATUS, FOG, CUE, replay and RECALL frame carries, both ways.
-/
namespace Sys2Proof

open Machine

/-- The code of a phase (Table 1-6). -/
def phaseCode : Phase → Nat
  | .idle => 0
  | .play => 1
  | .interval => 2
  | .showPhase => 3
  | .night => 4

/-- The phase of a code; 5, 6 and 7 name none (Table 1-6, R24). -/
def phaseOfCode : Nat → Option Phase
  | 0 => some .idle
  | 1 => some .play
  | 2 => some .interval
  | 3 => some .showPhase
  | 4 => some .night
  | _ => none

/-- The phase code of a cue: 0 to 4, or 7 for no change (Table 1-6). -/
def cuePhaseCode : Option Phase → Nat
  | some p => phaseCode p
  | none => 7

/-- A cue's phase code read back: 5 and 6 are refused or discarded (R115, R117). -/
def cuePhaseOfCode : Nat → Option (Option Phase)
  | 7 => some none
  | n => (phaseOfCode n).map some

/-- The code of a fog state (Table 1-6). -/
def fogCode : FogLevel → Nat
  | .clear => 0
  | .watch => 1
  | .act => 2
  | .fog => 3

/-- The fog state of a two-bit code. -/
def fogOfCode : Nat → FogLevel
  | 0 => .clear
  | 1 => .watch
  | 2 => .act
  | _ => .fog

/-- The class field of a DEMAND element, the class code less 1 (R171). -/
def classField : HeatClass → Nat
  | .heave => 0
  | .dry => 1
  | .stand => 2
  | .melt => 3

/-- The class of a DEMAND element's class field: every value names a class (R171). -/
def classOfField : Nat → HeatClass
  | 0 => .heave
  | 1 => .dry
  | 2 => .stand
  | _ => .melt

/-- The kind field of a header (Table 12-1). -/
def kindField : FrameKind → Nat
  | .status => 0
  | .cue => 1
  | .fog => 2
  | .recall => 3

/-- A demand record: class, loop index, amount and doubt (R100). -/
structure Demand where
  cls : HeatClass
  loop : Fin 4
  amount : Nat
  doubt : Bool
deriving DecidableEq, Repr

/-- What a STATUS carries (Table 2-1): its sequence, the FLAGS, the OFFER, the optional CAP and RADIANT and the
DEMAND elements in frame order. -/
structure StatusContent where
  sequence : Nat
  phase : Phase
  fog : FogLevel
  flood : Bool
  degraded : Bool
  first : Bool
  period : Nat
  offer : Nat
  offerDoubt : Bool
  cap : Option Nat
  radiant : Option Nat
  demands : List Demand
deriving DecidableEq, Repr

/-- A cue as a CUE frame carries it (Table 12-4); the absent phase is code 7, no change. -/
structure Cue where
  origin : Nat
  serial : Nat
  number : Nat
  phase : Option Phase
  wait : Nat
  fade : Nat
deriving DecidableEq, Repr

/-- The content of a frame the node sends (Table 3-2). -/
inductive TxFrame where
  | status (c : StatusContent)
  /-- FOG_ON when set, FOG_OFF when clear. -/
  | fog (on : Bool)
  | recall
  | cue (c : Cue)
  | replay (c : Cue)
deriving DecidableEq, Repr

/-- The frame kind of a content. -/
def TxFrame.kind : TxFrame → FrameKind
  | .status _ => .status
  | .fog _ => .fog
  | .recall => .recall
  | .cue _ => .cue
  | .replay _ => .cue

/-- Access class U: FOG, and CUE with the replay mark clear (Table 3-2, R40). -/
def TxFrame.classU : TxFrame → Bool
  | .fog _ => true
  | .cue _ => true
  | _ => false

/-- Whether the content is a STATUS carrying FIRST (R20, R44). -/
def TxFrame.carriesFirst : TxFrame → Bool
  | .status c => c.first
  | _ => false

/-- Whether a frame is a CUE without the replay mark, whose refusal or drop raises CUE_DROPPED (R45, R46). -/
def TxFrame.isCue : TxFrame → Bool
  | .cue _ => true
  | _ => false

/-- The 16 header bits in the order they are sent (Table 12-1). -/
def Frame.headerBits (f : Frame) : Bits :=
  packFields [(2, kindField f.kind), (6, f.sender.toNat), (4, f.sequence.toNat), (4, f.count.toNat)]

/-- The 18 bits of an element in the order they are sent (Table 12-2). -/
def Element.bits (e : Element) : Bits := bitsOfNat 16 e.data.toNat ++ [e.endMark, e.doubt]

/-- The bits the check word covers: the header and the elements, markers included (R38). -/
def Frame.coveredBits (f : Frame) : Bits := f.headerBits ++ (f.elements.map Element.bits).flatten

/-- One covered bit into the 16-bit check register (R38, steps 1 to 3). -/
def crcStep (r : Word16) (b : Bool) : Word16 :=
  if xor r.msb b then (r <<< 1) ^^^ 0x1021#16 else r <<< 1

/-- The check word over a run of covered bits: the register starts at 0xFFFF (R38). -/
def crc (bs : Bits) : Word16 := bs.foldl crcStep 0xFFFF#16

/-- The check word computed over a frame's header and elements (R38). -/
def Frame.computedCheck (f : Frame) : Word16 := crc f.coveredBits

/-- All the bits of a frame on the line: the start mark, the header, the elements and the check word (R37). -/
def Frame.lineBits (f : Frame) : Bits := [true, true] ++ f.coveredBits ++ bitsOfNat 16 f.check.toNat

/-- The data bits of element i as a number; 0 where the frame has no such element. -/
def Frame.dataAt (f : Frame) (i : Nat) : Nat := (f.elements[i]?.map (fun e => e.data.toNat)).getD 0

/-- The DOUBT marker of element i. -/
def Frame.doubtAt (f : Frame) (i : Nat) : Bool := (f.elements[i]?.map (fun e => e.doubt)).getD false

/-- Has-cap of the FLAGS element (Table 12-3). -/
def Frame.hasCap (f : Frame) : Bool := flagBit (f.dataAt 0) 7

/-- Has-radiant of the FLAGS element (Table 12-3). -/
def Frame.hasRadiant (f : Frame) : Bool := flagBit (f.dataAt 0) 6

/-- The demand count of the FLAGS element, as its three bits stand (Table 12-3). -/
def Frame.demandCount (f : Frame) : Nat := field (f.dataAt 0) 5 3

/-- The replay mark of a CUE (Table 12-4). -/
def Frame.replayMark (f : Frame) : Bool := flagBit (f.dataAt 2) 12

/-- The END marker is set on the last element and clear on every other one (R51). -/
def endMarksRight : List Element → Bool
  | [] => true
  | [e] => e.endMark
  | e :: rest => !e.endMark && endMarksRight rest

/-- The element count fits the kind (R51, Table 3-2). -/
def Frame.countFits (f : Frame) : Bool :=
  match f.kind with
  | .status =>
    decide (2 ≤ f.count.toNat) && decide (f.count.toNat ≤ 8) && decide (f.demandCount ≤ 4) &&
      decide (f.count.toNat = 2 + f.hasCap.toNat + f.hasRadiant.toNat + f.demandCount)
  | .cue => decide (f.count.toNat = 3)
  | .fog => decide (f.count.toNat = 1)
  | .recall => decide (f.count.toNat = 0)

/-- The frame has as many elements as its header declares: what makes a reception a complete frame (R50). -/
def Frame.complete (f : Frame) : Bool := decide (f.elements.length = f.count.toNat)

/-- The four conditions of R51 on a complete frame. -/
def Frame.valid (f : Frame) : Bool :=
  f.complete && decide (f.check = f.computedCheck) && decide (1 ≤ f.sender.toNat) &&
    decide (f.sender.toNat ≤ 60) && endMarksRight f.elements && f.countFits

/-- A DEMAND element's data read as a demand record (Table 12-3). -/
def demandOfElement (e : Element) : Demand where
  cls := classOfField (field e.data.toNat 15 14)
  loop := Fin.ofNat 4 (field e.data.toNat 13 12)
  amount := field e.data.toNat 11 0
  doubt := e.doubt

/-- What a valid STATUS carries, read from the positions its FLAGS give (Table 12-3); none where its phase code is 5, 6 or
7, so that R24 discards it. -/
def Frame.readStatus (f : Frame) : Option StatusContent :=
  (phaseOfCode (field (f.dataAt 0) 15 13)).map fun p =>
    { sequence := f.sequence.toNat
      phase := p
      fog := fogOfCode (field (f.dataAt 0) 12 11)
      flood := flagBit (f.dataAt 0) 10
      degraded := flagBit (f.dataAt 0) 9
      first := flagBit (f.dataAt 0) 8
      period := field (f.dataAt 0) 2 0
      offer := f.dataAt 1
      offerDoubt := f.doubtAt 1
      cap := if f.hasCap then some (f.dataAt 2) else none
      radiant := if f.hasRadiant then some (f.dataAt (2 + f.hasCap.toNat)) else none
      demands := (f.elements.drop (2 + f.hasCap.toNat + f.hasRadiant.toNat)).map demandOfElement }

/-- What a FOG element says: FOG_ON is 1 and FOG_OFF is 2; any other value is not delivered (R52, R171). -/
def Frame.readFog (f : Frame) : Option Bool :=
  match f.dataAt 0 with
  | 1 => some true
  | 2 => some false
  | _ => none

/-- What a valid CUE carries after the checks of R117: none where the cue is discarded. A wait or fade above 600 is taken as
600. -/
def Frame.readCue (f : Frame) : Option Cue :=
  match cuePhaseOfCode (field (f.dataAt 2) 15 13) with
  | none => none
  | some p =>
    let origin := field (f.dataAt 1) 15 10
    if origin = 0 ∨ 60 < origin then none
    else if f.replayMark = false ∧ origin ≠ f.sender.toNat then none
    else some
      { origin := origin
        serial := field (f.dataAt 0) 7 0
        number := field (f.dataAt 0) 15 8
        phase := p
        wait := min 600 (field (f.dataAt 1) 9 0)
        fade := min 600 (field (f.dataAt 2) 9 0) }

/-- Elements from their data and DOUBT markers, with END set on the last (R37). -/
def markElements : List (Nat × Bool) → List Element
  | [] => []
  | [(d, m)] => [{ data := BitVec.ofNat 16 d, endMark := true, doubt := m }]
  | (d, m) :: rest => { data := BitVec.ofNat 16 d, endMark := false, doubt := m } :: markElements rest

/-- The FLAGS data of a STATUS (Table 12-3). -/
def flagsData (c : StatusContent) : Nat :=
  natOfBits (packFields [(3, phaseCode c.phase), (2, fogCode c.fog), (1, c.flood.toNat), (1, c.degraded.toNat),
    (1, c.first.toNat), (1, c.cap.isSome.toNat), (1, c.radiant.isSome.toNat), (3, c.demands.length), (3, c.period)])

/-- The data of a DEMAND element (Table 12-3). -/
def demandData (d : Demand) : Nat :=
  natOfBits (packFields [(2, classField d.cls), (2, d.loop.val), (12, d.amount)])

/-- The data and DOUBT marker of each element of a frame's content, in frame order (Tables 12-3 and 12-4, R171). A sender
clears DOUBT on every element other than OFFER and DEMAND (R37). -/
def TxFrame.elementData : TxFrame → List (Nat × Bool)
  | .status c =>
    [(flagsData c, false), (c.offer, c.offerDoubt)] ++ c.cap.toList.map (fun x => (x, false)) ++
      c.radiant.toList.map (fun x => (x, false)) ++ c.demands.map (fun d => (demandData d, d.doubt))
  | .fog on => [(if on then 1 else 2, false)]
  | .recall => []
  | .cue c => cueElements c false
  | .replay c => cueElements c true
where
  /-- The three elements of a CUE (Table 12-4). -/
  cueElements (c : Cue) (replay : Bool) : List (Nat × Bool) :=
    [(natOfBits (packFields [(8, c.number), (8, c.serial)]), false),
     (natOfBits (packFields [(6, c.origin), (10, c.wait)]), false),
     (natOfBits (packFields [(3, cuePhaseCode c.phase), (1, replay.toNat), (2, 0), (10, c.fade)]), false)]

/-- The sequence a frame carries: a STATUS its own, every other kind 0 (R37). -/
def TxFrame.sequence : TxFrame → Nat
  | .status c => c.sequence
  | _ => 0

/-- A content as a frame from the node's address, with its check word formed over it (R37, R38). -/
def TxFrame.toFrame (address : Nat) (t : TxFrame) : Frame :=
  let body : Frame :=
    { kind := t.kind
      sender := BitVec.ofNat 6 address
      sequence := BitVec.ofNat 4 t.sequence
      count := BitVec.ofNat 4 t.elementData.length
      elements := markElements t.elementData
      check := 0 }
  { body with check := body.computedCheck }

end Sys2Proof
end

