-- ==== Sys2Proof/Machine/Records.lean ====
section
/-!
DEFINITION. The records that the blocks of the LZ20 keep: the configuration (the fields written through the setup
port in UNSET) and the live records of each block, each with its value after power-on or reset pin assertion.
-/
namespace Sys2Proof.Machine

/-! ### Configuration -/

/-- The NODE window's fields (R152, R16, R112). -/
structure NodeConfig where
  /-- 0 to 60; 0 means unconfigured. -/
  address : Nat
  /-- The status period code, 0 to 7. -/
  period : Nat
  /-- The attention mask, bit i for cause index i. -/
  mask : BitVec 12
  /-- 0 to 1000 per mille. -/
  lightFloor : Nat
  startPhase : Phase
deriving DecidableEq, Repr

/-- Defaults: address 0, period code 1, every cause in the mask, light floor 0, start phase IDLE (R152, R16, R112). -/
def NodeConfig.powerOn : NodeConfig :=
  { address := 0, period := 1, mask := 0xFFF#12, lightFloor := 0, startPhase := .idle }

/-- A channel's configuration fields (Table 1-7); the absent binding is NONE. -/
structure ChannelConfig where
  kind : ChannelKind
  binding : Option Binding
  trim : Int
  autoZero : Bool
  fullScale : Nat
  stepLimit : Nat
deriving DecidableEq, Repr

/-- The defaults of Table 1-7. -/
def ChannelConfig.powerOn : ChannelConfig :=
  { kind := .unused, binding := none, trim := 0, autoZero := false, fullScale := 1000, stepLimit := 0 }

/-- The SOURCE window's fields (R90). -/
structure SourceConfig where
  /-- The heat capacity factor h, 1000 to 4500 J/(L·K). -/
  capacity : Nat
  /-- The offer fraction f, 0 to 1000 per mille. -/
  fraction : Nat
deriving DecidableEq, Repr

/-- The defaults of R90. -/
def SourceConfig.powerOn : SourceConfig := { capacity := 4180, fraction := 1000 }

/-- A loop's configuration fields (Table 6-1); the absent class is NONE and the absent backup pin is "none". -/
structure LoopConfig where
  cls : Option HeatClass
  /-- The design heat D. -/
  design : Nat
  setIdle : Int
  setPlay : Int
  setInterval : Int
  setShow : Int
  setNight : Int
  /-- The band B. -/
  band : Nat
  valve : Fin 4
  backupPin : Option (Fin 24)
  threshold : Nat
  hold : Nat
  fallback : Nat
deriving DecidableEq, Repr

/-- The defaults of Table 6-1 for loop n: its valve generator is VGn. -/
def LoopConfig.powerOn (n : Fin 4) : LoopConfig :=
  { cls := none, design := 0, setIdle := 0, setPlay := 0, setInterval := 0, setShow := 0, setNight := 0, band := 50,
    valve := n, backupPin := none, threshold := 0, hold := 60, fallback := 0 }

/-- The setpoint of a phase (Table 6-1, R96). -/
def LoopConfig.setpoint (c : LoopConfig) : Phase → Int
  | .idle => c.setIdle
  | .play => c.setPlay
  | .interval => c.setInterval
  | .showPhase => c.setShow
  | .night => c.setNight

/-- The ICE window's fields (Table 4-1). -/
structure IceConfig where
  ceilIdle : Int
  ceilPlay : Int
  ceilInterval : Int
  ceilShow : Int
  ceilNight : Int
  watch : Int
  /-- The radiant sensitivity S. -/
  sensitivity : Nat
  /-- The upper cap margin Mh. -/
  upper : Int
  /-- The lower cap margin Ml. -/
  lower : Int
  /-- The ice cap floor. -/
  floor : Nat
  floodRise : Int
  floodTime : Nat
deriving DecidableEq, Repr

/-- The defaults of Table 4-1. -/
def IceConfig.powerOn : IceConfig :=
  { ceilIdle := -30, ceilPlay := -50, ceilInterval := -40, ceilShow := -45, ceilNight := -25, watch := 20,
    sensitivity := 10, upper := 20, lower := 0, floor := 300, floodRise := 20, floodTime := 300 }

/-- The ceiling of a phase (Table 4-1, R60). -/
def IceConfig.ceiling (c : IceConfig) : Phase → Int
  | .idle => c.ceilIdle
  | .play => c.ceilPlay
  | .interval => c.ceilInterval
  | .showPhase => c.ceilShow
  | .night => c.ceilNight

/-- The FOG window's fields (Table 5-1). -/
structure FogConfig where
  /-- The watch threshold Fw. -/
  watch : Int
  /-- The act threshold Fa. -/
  act : Int
  /-- The hysteresis Fh. -/
  hysteresis : Int
  /-- The flood allowance Ff. -/
  allowance : Int
  beamThreshold : Int
  beamHysteresis : Int
  beamHold : Nat
  clearTime : Nat
  regenClear : Nat
  regenWatch : Nat
  regenAct : Nat
  regenFog : Nat
  curtailClear : Nat
  curtailWatch : Nat
  curtailAct : Nat
  curtailFog : Nat
deriving DecidableEq, Repr

/-- The defaults of Table 5-1. -/
def FogConfig.powerOn : FogConfig :=
  { watch := 40, act := 20, hysteresis := 5, allowance := 15, beamThreshold := 700, beamHysteresis := 50,
    beamHold := 10, clearTime := 120, regenClear := 0, regenWatch := 400, regenAct := 1000, regenFog := 1000,
    curtailClear := 1000, curtailWatch := 1000, curtailAct := 600, curtailFog := 300 }

/-- The configured regeneration request for a value of E (R86). -/
def FogConfig.regen (c : FogConfig) : FogLevel → Nat
  | .clear => c.regenClear
  | .watch => c.regenWatch
  | .act => c.regenAct
  | .fog => c.regenFog

/-- The configured curtail for a value of E (R86). -/
def FogConfig.curtail (c : FogConfig) : FogLevel → Nat
  | .clear => c.curtailClear
  | .watch => c.curtailWatch
  | .act => c.curtailAct
  | .fog => c.curtailFog

/-- A scene (R113): for each channel a level, absent for KEEP, and a strobe mark; and the strobe widths. -/
structure Scene where
  levels : Vector (Option Nat) 8
  marks : Vector Bool 8
  onWidth : Nat
  offWidth : Nat
deriving DecidableEq, Repr

/-- A scene after power-on: KEEP on all channels, marks clear, both widths 50 (R113). -/
def Scene.powerOn : Scene :=
  { levels := Vector.replicate 8 none, marks := Vector.replicate 8 false, onWidth := 50, offWidth := 50 }

/-- A cue map entry (R114); the cue number 255 makes it empty. -/
structure CueMapEntry where
  cue : Nat
  scene : Fin 32
deriving DecidableEq, Repr

/-- An empty cue map entry (R114). The scene number of an empty entry is not stated: DESIGN CHOICE 0. -/
def CueMapEntry.powerOn : CueMapEntry := { cue := 255, scene := 0 }

/-- A cue input's configuration (R115); the absent phase is code 7, no change. -/
structure CueInputConfig where
  number : Nat
  phase : Option Phase
  wait : Nat
  fade : Nat
deriving DecidableEq, Repr

/-- The defaults of R115. -/
def CueInputConfig.powerOn : CueInputConfig := { number := 255, phase := none, wait := 0, fade := 10 }

/-- A field pin's configuration (Table 9-1). -/
structure PinConfig where
  function : PinFunction
  drive : DriveMode
  pullUp : Bool
  polarity : Polarity
deriving DecidableEq, Repr

/-- The defaults of Table 9-1. -/
def PinConfig.powerOn : PinConfig := { function := .input, drive := .pushPull, pullUp := false, polarity := .normal }

/-- All the configuration of the node: the fields written in UNSET, set to their defaults by power-on and reset pin
assertion and kept by RESTART. -/
structure Configuration where
  node : NodeConfig
  channels : Vector ChannelConfig 12
  source : SourceConfig
  loops : Vector LoopConfig 4
  ice : IceConfig
  fog : FogConfig
  /-- The radiant coefficients (R112). -/
  coefficients : Vector Nat 8
  scenes : Vector Scene 32
  cueMap : Vector CueMapEntry 64
  cueInputs : Vector CueInputConfig 2
  pins : Vector PinConfig 24
deriving DecidableEq, Repr

/-- Every configuration field at its default. -/
def Configuration.powerOn : Configuration :=
  { node := .powerOn
    channels := Vector.replicate 12 .powerOn
    source := .powerOn
    loops := Vector.ofFn LoopConfig.powerOn
    ice := .powerOn
    fog := .powerOn
    coefficients := Vector.replicate 8 0
    scenes := Vector.replicate 32 .powerOn
    cueMap := Vector.replicate 64 .powerOn
    cueInputs := Vector.replicate 2 .powerOn
    pins := Vector.replicate 24 .powerOn }

/-! ### Measurement Unit -/

/-- The live fields of a channel record (Table 1-9), and the reference counts of a zero measurement under way (R5). -/
structure ChannelLive where
  lastRaw : Nat
  zeroCorrection : Int
  zeroState : ZeroState
  /-- The filter ring, oldest first. -/
  ring : List Nat
  value : Int
  quality : Quality
  outRun : Nat
  inRun : Nat
  stepHold : Nat
  /-- The reference counts taken so far in the zero measurement under way; empty when none is. -/
  zeroCounts : List Nat
deriving DecidableEq, Repr

/-- The values of Table 1-9. -/
def ChannelLive.powerOn : ChannelLive :=
  { lastRaw := 0, zeroCorrection := 0, zeroState := .notTaken, ring := [], value := 0, quality := .doubt, outRun := 0,
    inRun := 0, stepHold := 0, zeroCounts := [] }

/-- The Measurement Unit: the channels' live fields, the reference conversions still to be made in STARTING in their
order (R5), and the conversions of the scan under way still to be made (R7). -/
structure Measurement where
  channels : Vector ChannelLive 12
  zeroSchedule : List (Fin 12)
  scanSchedule : List (Fin 12)
deriving DecidableEq, Repr

/-- The Measurement Unit after power-on (R4, R5, R7). -/
def Measurement.powerOn : Measurement :=
  { channels := Vector.replicate 12 .powerOn, zeroSchedule := [], scanSchedule := [] }

/-! ### Status Composer and Peer Table -/

/-- The Status Composer: the expiries counted since the entry into LISTEN (R18) and the FIRST marker (R20). -/
structure Composer where
  expiryCount : Nat
  first : Bool
deriving DecidableEq, Repr

/-- The Status Composer after power-on (R18, R20). -/
def Composer.powerOn : Composer := { expiryCount := 0, first := false }

/-- A peer entry (Table 2-2). -/
structure PeerEntry where
  address : Nat
  period : Nat
  lastSequence : Nat
  /-- In 10 ms steps, saturating at 65535. -/
  age : Nat
  /-- STALE when set, FRESH when clear (R28). -/
  stale : Bool
  phase : Phase
  fog : FogLevel
  flood : Bool
  degraded : Bool
  cap : Option Nat
  radiant : Option Nat
  offer : Nat
  offerDoubt : Bool
  demands : List Demand
  gapCount : Nat
  lastCueSerial : Option Nat
  splitCounter : Nat
deriving DecidableEq, Repr

/-- An entry of address `a` with every other field 0 or absent: what a new entry is stored over (R25), and at address 0 what a
PEER window without an entry shows (R34). -/
def PeerEntry.blank (a : Nat) : PeerEntry :=
  { address := a, period := 0, lastSequence := 0, age := 0, stale := false, phase := .idle, fog := .clear, flood := false,
    degraded := false, cap := none, radiant := none, offer := 0, offerDoubt := false, demands := [], gapCount := 0,
    lastCueSerial := none, splitCounter := 0 }

/-! ### Line Interface -/

/-- A frame waiting or in flight, with its attempt number (R40). -/
structure Queued where
  frame : TxFrame
  attempt : Nat
deriving DecidableEq, Repr

/-- The six places of the transmit queue (R46): one each for STATUS, FOG, RECALL and replay, and the CUE frames, the
older one first (R47). R46 to R48 do not say which of the two CUE places a frame stands in: the model keeps the CUE frames by age, the
older first, and the one left closes up when the other leaves (DESIGN CHOICE, log entry 39). -/
structure TxQueue where
  statusPlace : Option Queued
  fogPlace : Option Queued
  recallPlace : Option Queued
  replayPlace : Option Queued
  cuePlaces : List Queued
deriving DecidableEq, Repr

/-- The empty transmit queue. -/
def TxQueue.empty : TxQueue := 
  { statusPlace := none, fogPlace := none, recallPlace := none, replayPlace := none, cuePlaces := [] }

/-- The transmit stage (R48): the frame of the attempt under way, and the frame as it is driven on the line, its fog field
written and its check word formed (R49). -/
structure Staged where
  queued : Queued
  wire : Frame
deriving DecidableEq, Repr

/-- The line as this node's Line Interface has it (R36, R39, R42, R43). -/
inductive Access where
  /-- No release observed since reception was switched on (R36), or reception is off. -/
  | noRelease
  /-- The line is idle; `slots` slot starts have passed since the release (R39). -/
  | idle (slots : Nat)
  /-- A lead of another station has ended the slot count; its transmission is being received (R50). -/
  | receiving
  /-- A reception, an own transmission or a stuck run has ended; the next release is awaited (R36, R50). -/
  | closed
  /-- The node's own attempt is under way (R41). -/
  | sending
  /-- The rest of a transmission after a disturbance of the own attempt (R43). -/
  | disturbed
deriving DecidableEq, Repr

/-- The Line Interface (chapter 3). -/
structure LineInterface where
  queue : TxQueue
  stage : Option Staged
  access : Access
  /-- The error score, 0 to 255 (R53). -/
  score : Nat
  degraded : Bool
  /-- The own STATUS sequence counter, 0 to 15 (R19). -/
  ownSequence : Nat
  /-- The own cue serial counter, 0 to 255 (R123). -/
  cueSerial : Nat
deriving DecidableEq, Repr

/-- The Line Interface after power-on (Table 3-6). -/
def LineInterface.powerOn : LineInterface :=
  { queue := .empty, stage := none, access := .noRelease, score := 0, degraded := false, ownSequence := 0,
    cueSerial := 0 }

/-! ### Ice Watch and Fog Guard -/

/-- Ice Watch's live state (chapter 4, Table 4-3). -/
structure IceLive where
  /-- The ice margin M. -/
  margin : Int
  failureCount : Nat
  state : IceState
  warmRun : Nat
  /-- The flood ring, oldest first. -/
  ring : List Int
  /-- The flood timer in seconds; the flood condition is set while it is above 0 (R64). -/
  floodTimer : Nat
  /-- The arena radiant total T. -/
  total : Nat
  /-- The settled radiant, absent until taken from the first T (R67). -/
  settled : Option Int
  /-- The predicted margin P. -/
  predicted : Int
  /-- The own cap. -/
  cap : Nat
deriving DecidableEq, Repr

/-- The power-on column of Table 4-3. -/
def IceLive.powerOn : IceLive :=
  { margin := 0, failureCount := 0, state := .firm, warmRun := 0, ring := [], floodTimer := 0, total := 0,
    settled := none, predicted := 0, cap := 1000 }

/-- The flood condition: set while the timer is above 0 (R64). -/
def IceLive.flood (i : IceLive) : Bool := decide (0 < i.floodTimer)

/-- Fog Guard's live state (chapter 5, Table 5-5). -/
structure FogLive where
  dewPoint : Int
  /-- The fog margin F. -/
  margin : Int
  /-- F_eff of the last evaluation. -/
  effective : Int
  failureCount : Nat
  floodInView : Bool
  marginState : FogLevel
  /-- The beam path condition: ACTIVE when set. -/
  beamActive : Bool
  belowRun : Nat
  clearRun : Nat
  beamFog : Bool
  own : FogLevel
  /-- The effective fog level E. -/
  effectiveLevel : FogLevel
  regen : Nat
  curtail : Nat
  fanDemand : Bool
deriving DecidableEq, Repr

/-- The power-on column of Table 5-5, the regeneration request and curtail as configured for CLEAR by default. -/
def FogLive.powerOn : FogLive :=
  { dewPoint := 0, margin := 0, effective := 0, failureCount := 0, floodInView := false, marginState := .clear,
    beamActive := false, belowRun := 0, clearRun := 0, beamFog := false, own := .clear, effectiveLevel := .clear,
    regen := 0, curtail := 1000, fanDemand := false }

/-! ### Heat Share Engine -/

/-- A loop record's live part (section 6.6, Table 6-2). -/
structure LoopLive where
  temperature : Int
  shortfall : Int
  demand : Nat
  kind : DemandKind
  held : Nat
  /-- The failure timer in ms, absent while stopped; it stops at 60 000 (R99). -/
  failureTimer : Option Nat
  grant : Nat
  /-- The duty last written. -/
  duty : Nat
  /-- The deficit at the last backup expiry. -/
  deficit : Nat
  /-- The backup condition: ON when set. -/
  backup : Bool
  /-- The hold count, absent while stopped (R108). -/
  holdCount : Option Nat
deriving DecidableEq, Repr

/-- The power-on column of Table 6-2 for a loop. -/
def LoopLive.powerOn : LoopLive :=
  { temperature := 0, shortfall := 0, demand := 0, kind := .computed, held := 0, failureTimer := none, grant := 0,
    duty := 0, deficit := 0, backup := false, holdCount := none }

/-- The summary of the last share evaluation (R111). -/
structure ShareSummary where
  /-- The view offer O. -/
  viewOffer : Nat
  records : Nat
  t1 : Nat
  t2 : Nat
  t3 : Nat
  t4 : Nat
  /-- The class in which the cut fell, or none. -/
  cut : Option HeatClass
  /-- The remainder R at the end. -/
  remainder : Nat
deriving DecidableEq, Repr

/-- The zero summary (Table 6-2). -/
def ShareSummary.powerOn : ShareSummary :=
  { viewOffer := 0, records := 0, t1 := 0, t2 := 0, t3 := 0, t4 := 0, cut := none, remainder := 0 }

/-- The Heat Share Engine's live state (chapter 6). -/
structure HeatLive where
  offer : Nat
  offerDoubt : Bool
  /-- The flow last read. -/
  flow : Int
  /-- The temperature drop last read. -/
  drop : Int
  rawOffer : Nat
  loops : Vector LoopLive 4
  summary : ShareSummary
deriving DecidableEq, Repr

/-- The power-on column of Table 6-2. -/
def HeatLive.powerOn : HeatLive :=
  { offer := 0, offerDoubt := false, flow := 0, drop := 0, rawOffer := 0, loops := Vector.replicate 4 .powerOn,
    summary := .powerOn }

/-! ### Lighting Engine -/

/-- An entry of the pending cue list; its remaining wait is in fade steps (R120). -/
structure PendingCue where
  origin : Nat
  serial : Nat
  number : Nat
  phase : Option Phase
  fade : Nat
  remaining : Nat
deriving DecidableEq, Repr

/-- The current cue record (R121). -/
structure CueRecord where
  origin : Nat
  serial : Nat
  number : Nat
  phase : Option Phase
  fade : Nat
deriving DecidableEq, Repr

/-- A lighting channel's fade record (R124). -/
structure Fade where
  state : FadeState
  start : Nat
  target : Nat
  /-- The step count e. -/
  step : Nat
  /-- The length D_f in steps. -/
  length : Nat
  level : Nat
  output : Nat
deriving DecidableEq, Repr

/-- The power-on column of Table 7-1 for a fade. -/
def Fade.powerOn : Fade := { state := .idle, start := 0, target := 0, step := 0, length := 0, level := 0, output := 0 }

/-- The Lighting Engine's live state (chapter 7). -/
structure LightLive where
  phase : Phase
  pendingCues : List PendingCue
  current : Option CueRecord
  /-- The LISTEN take marker. -/
  takeMarker : Bool
  fades : Vector Fade 8
  targetCap : Nat
  slewedCap : Nat
  /-- The own radiant contribution. -/
  radiant : Nat
deriving DecidableEq, Repr

/-- The power-on column of Table 7-1. -/
def LightLive.powerOn : LightLive :=
  { phase := .idle, pendingCues := [], current := none, takeMarker := false, fades := Vector.replicate 8 .powerOn,
    targetCap := 1000, slewedCap := 1000, radiant := 0 }

/-! ### Output Generators -/

/-- A generator record without its strobe (Table 8-1). -/
structure Generator where
  /-- The run condition: RUNNING when set, OFF when clear. -/
  running : Bool
  slotA : Nat
  slotB : Nat
  active : Slot
  /-- The written marker. -/
  written : Bool
  count : Nat
  /-- The part of the present count time that has passed, in the 2 µs steps of an idle step: the rest of the generator's period
  timer (R132), which no window shows; log entry 7. A dimmer generator's count time is one such step. -/
  part : Nat
  /-- The output before strobe gating: high when set. -/
  output : Bool
deriving DecidableEq, Repr

/-- The power-on column of Table 8-4. -/
def Generator.powerOn : Generator :=
  { running := false, slotA := 0, slotB := 0, active := .a, written := false, count := 0, part := 0, output := false }

/-- A dimmer generator's strobe record (R137). -/
structure Strobe where
  /-- The strobe condition: ACTIVE when set. -/
  active : Bool
  phase : StrobePhase
  onWidth : Nat
  offWidth : Nat
  counter : Nat
deriving DecidableEq, Repr

/-- The strobe record after power-on (R137). -/
def Strobe.powerOn : Strobe := { active := false, phase := .onTime, onWidth := 50, offWidth := 50, counter := 0 }

/-- A dimmer generator: its generator record and its strobe record (R132, R137). -/
structure Dimmer where
  gen : Generator
  strobe : Strobe
deriving DecidableEq, Repr

/-- A dimmer generator after power-on (R133, R137). -/
def Dimmer.powerOn : Dimmer := { gen := .powerOn, strobe := .powerOn }

/-- The twelve generators (R132). -/
structure Generators where
  dimmers : Vector Dimmer 8
  valves : Vector Generator 4
deriving DecidableEq, Repr

/-- A generator record as SNAP 4 shows it: the fields of R143, without the part of the count time that has passed. -/
def Generator.shown (g : Generator) : Generator := { g with part := 0 }

/-- The generator records as SNAP 4 shows them (R143). -/
def Generators.shown (g : Generators) : Generators :=
  { dimmers := g.dimmers.map fun d => { d with gen := d.gen.shown }, valves := g.valves.map Generator.shown }

/-- The generators after power-on (R133). -/
def Generators.powerOn : Generators := { dimmers := Vector.replicate 8 .powerOn, valves := Vector.replicate 4 .powerOn }

/-! ### Field Pins -/

/-- A cue-input record (R148), with the level of the sample before, which the arming run compares with. -/
structure CueInput where
  /-- The sampling condition: SAMPLING when set, STOPPED when clear. -/
  sampling : Bool
  armed : Bool
  armingRun : Nat
  /-- The logical level of the sample before, absent before the first sample. -/
  lastLevel : Option Bool
  /-- The debounced level, absent for none. -/
  debounced : Option Bool
  changeRun : Nat
deriving DecidableEq, Repr

/-- A cue-input record as SNAP 4 shows it: the fields of R151, without the level of the sample before, which is the model's own field
(log entries 5 and 24). -/
def CueInput.shown (c : CueInput) : CueInput := { c with lastLevel := none }

/-- A stopped cue input (R148, Table 9-4). -/
def CueInput.stopped : CueInput :=
  { sampling := false, armed := false, armingRun := 0, lastLevel := none, debounced := none, changeRun := 0 }

/-- The Field Pins block: the cue-input records, and what the outside was last seen to hold at the 24 pins. -/
structure FieldPins where
  cueInputs : Vector CueInput 2
  board : Board
deriving DecidableEq, Repr

/-- The Field Pins block after power-on, with nothing held at any pin (Table 9-4). -/
def FieldPins.powerOn : FieldPins :=
  { cueInputs := Vector.replicate 2 .stopped, board := Vector.replicate 24 .opened }

/-! ### Node Control and Attention -/

/-- One cause of the cause record: its set flag and its occurrence count (R159). -/
structure CauseEntry where
  flag : Bool
  count : Nat
deriving DecidableEq, Repr

/-- A cleared cause (R159). -/
def CauseEntry.clear : CauseEntry := { flag := false, count := 0 }

/-- Node Control and Attention (chapter 10). -/
structure NodeControl where
  state : NodeState
  lastReset : ResetKind
  startFault : StartFault
  startFaultIndex : Nat
  causes : Vector CauseEntry 12
deriving DecidableEq, Repr

/-- Node Control after power-on (R154). -/
def NodeControl.powerOn : NodeControl :=
  { state := .unset, lastReset := .power, startFault := .noFault, startFaultIndex := 0,
    causes := Vector.replicate 12 .clear }

/-! ### Setup Port -/

/-- The port states (R162). -/
inductive PortState where
  | portIdle
  | code
  | shift
deriving DecidableEq, Repr

/-- The results of Table 11-2, in the order of their codes. -/
inductive PortResult where
  | applied
  | clamped
  | discardedLength
  | refusedState
  | refusedValue
  | busy
  | noCapture
  | unknownCode
  | captured
deriving DecidableEq, Repr

/-- What the line snapshot shows of a place or the stage: the frame's kind and its attempt number (R170). The kind is one of the
header's four (R37), so a replay CUE shows as CUE; which place holds it tells the two apart, and in the stage nothing does (DEDUCED,
log entry 38). -/
structure FrameView where
  kind : FrameKind
  attempt : Nat
deriving DecidableEq, Repr

/-- The contents of a window at the instant of a capture (R164). The windows whose layout chapter 12 gives are bits; the
others are the fields their rules name. -/
inductive Snapshot where
  /-- A configuration window, IDENT, SNAP 6 or an ACTION window. -/
  | laidOut (bits : Bits)
  /-- SNAP 0 (R111): whether the node has a source, the loops' classes, and the live state; `reading` is the model's count of
  readings, for the failure timers' time within the status period, which the state does not hold. -/
  | heat (reading : Nat) (hasSource : Bool) (classes : Vector (Option HeatClass) 4) (live : HeatLive)
  /-- SNAP 1 (R89): whether the node has a margin path and a beam path, and the live state. -/
  | fog (hasMargin hasBeam : Bool) (live : FogLive)
  /-- SNAP 2 (R72): whether the node has ice, and the live state. -/
  | ice (hasIce : Bool) (live : IceLive)
  /-- SNAP 3 (R131). -/
  | light (live : LightLive)
  /-- SNAP 4 (R143, R151): the raw levels, the generators as shown, the dimmers' gated outputs and the cue inputs as shown. -/
  | pins (raw : Vector Bool 24) (gens : Generators) (gated : Vector Bool 8) (cueInputs : Vector CueInput 2)
  /-- SNAP 5 (R170): score, degraded, the two counters, the FIRST marker, the node state with its kind of MUTE, the six places
  and the stage; the CUE places by age, so that a CUE waiting alone is in the first one (DESIGN CHOICE, log entry 39). -/
  | line (score : Nat) (degraded : Bool) (ownSequence cueSerial : Nat) (first : Bool) (state : NodeState)
      (statusPlace fogPlace recallPlace replayPlace : Option FrameView) (cuePlaces : List FrameView) (stage : Option FrameView)
  /-- PEER (R34): the entry at the position, or the blank entry of address 0 where the position holds none. -/
  | peer (entry : PeerEntry)
deriving DecidableEq, Repr

/-- The Setup Port (chapter 11). A row of the table is a whole transaction: within it the port passes through CODE and SHIFT, and
between two commands it stands in PORT_IDLE (log entry 18). -/
structure SetupPort where
  state : PortState
  /-- Set while the port waits for PSEL to be seen high after power-on or reset pin release (R162). -/
  waitHigh : Bool
  /-- The code being received, as the last transaction left it. -/
  code : Nat
  /-- The bits taken in CODE or in SHIFT, in the state the last transaction ended in. -/
  count : Nat
  /-- The shift stage (R164, R165), or under an unknown code the one bit of the pass stage in its place (R163); its head leaves
  next. -/
  stage : Bits
  /-- The contents of the window captured last. -/
  snapshot : Option Snapshot
  /-- What PDO showed at each rising edge of PCLK in the last transaction, in CODE and in SHIFT (R162, R165); `none` would be a
  released line. -/
  pdo : List (Option Bool)
  lastResult : PortResult
  scenePointer : Fin 32
  /-- The captured cause set: absent, or for each cause its count if its flag was set (R164). -/
  capturedSet : Option (Vector (Option Nat) 12)
deriving DecidableEq, Repr

/-- The Setup Port after power-on (R162). The code, count, stage and output of no transaction are DESIGN CHOICE empty (log entry
18); that PSEL was high when power rose, so that the port does not wait for it, is DESIGN CHOICE too (log entry 37). -/
def SetupPort.powerOn : SetupPort :=
  { state := .portIdle, waitHigh := false, code := 0, count := 0, stage := [], snapshot := none, pdo := [],
    lastResult := .captured, scenePointer := 0, capturedSet := none }

end Sys2Proof.Machine
end

