-- ==== Sys2Proof/Config.lean ====
section
/-!
DEFINITION. What the manual leaves open and one LZ20 fixes: the free values of the model. Each is an opaque constant with
no body, so that nothing can be proved of its value.
-/
namespace Sys2Proof

/-- The level read at a pin that nothing holds: no drive of the node, no pull-up and nothing held by the board (R147 states
no level there). The first argument is the model's counter of such readings, so that two readings are not tied together;
the second is the pin. Free value, log entry 4. -/
opaque Config.floatingLevel : Nat → Nat → Bool

/-- Bit i, in the order shifted out, of a read-only window whose layout "is not given in this manual" (section 11.2, section
12.3): a fixed function of the fields captured. Free value, log entry 5. -/
opaque Config.snapshotBit : Machine.Snapshot → Nat → Bool

end Sys2Proof
end

