-- ==== Sys2Proof/Machine/State.lean ====
section
/-!
DEFINITION. The state of one LZ20 and the queue of the commands that wait for it, the state right after reset, the reasons a
step could stop, and one named update for each field of the state.
-/
namespace Sys2Proof.Machine

/-- The reasons a step could stop with a fault: there are none. The manual names no fault that stops the device: what goes
wrong is recorded as a cause, a start fault or a port result, each of which is state. Safe: no meaning stops. -/
inductive Fault where
deriving DecidableEq, Repr

/-- The reasons a command could be refused. -/
inductive Refusal where
  /-- Raised by exec's arm of a row that has no meaning yet; no arm is of this kind. Safe: it stops the machine. -/
  | notModelled (mnemonic : String)
deriving DecidableEq, Repr

/-- The state of one LZ20 (Table 1-2), what its reset pin is held at, and the commands that wait. -/
structure State where
  /-- The configuration fields of every block. -/
  cfg : Configuration
  /-- Measurement Unit. -/
  meas : Measurement
  /-- Status Composer. -/
  comp : Composer
  /-- Peer Table, in ascending address order (R23). -/
  peers : List PeerEntry
  /-- Line Interface. -/
  line : LineInterface
  /-- Ice Watch. -/
  ice : IceLive
  /-- Fog Guard. -/
  fog : FogLive
  /-- Heat Share Engine. -/
  heat : HeatLive
  /-- Lighting Engine. -/
  light : LightLive
  /-- Output Generators. -/
  gens : Generators
  /-- Field Pins. -/
  pins : FieldPins
  /-- Node Control and Attention. -/
  node : NodeControl
  /-- Setup Port. -/
  port : SetupPort
  /-- Set while the active-low reset pin is held asserted (R154). -/
  resetHeld : Bool
  /-- The model's own counter of readings of free values; not the manual's. -/
  freeCount : Nat
  /-- The commands that wait, first in, first out. -/
  pending : List Instr
deriving DecidableEq, Repr

/-- Every block at its power-on values (R154), the reset pin released, nothing held at any pin, no command waiting. -/
def State.reset : State :=
  { cfg := .powerOn
    meas := .powerOn
    comp := .powerOn
    peers := []
    line := .powerOn
    ice := .powerOn
    fog := .powerOn
    heat := .powerOn
    light := .powerOn
    gens := .powerOn
    pins := .powerOn
    node := .powerOn
    port := .powerOn
    resetHeld := false
    freeCount := 0
    pending := [] }

/-! One update for each field; the laws of Laws/State.lean say what each leaves alone. -/

/-- The state with another configuration. -/
def State.setCfg (s : State) (x : Configuration) : State := { s with cfg := x }
/-- The state with another Measurement Unit. -/
def State.setMeas (s : State) (x : Measurement) : State := { s with meas := x }
/-- The state with another Status Composer. -/
def State.setComp (s : State) (x : Composer) : State := { s with comp := x }
/-- The state with another Peer Table. -/
def State.setPeers (s : State) (x : List PeerEntry) : State := { s with peers := x }
/-- The state with another Line Interface. -/
def State.setLine (s : State) (x : LineInterface) : State := { s with line := x }
/-- The state with another Ice Watch. -/
def State.setIce (s : State) (x : IceLive) : State := { s with ice := x }
/-- The state with another Fog Guard. -/
def State.setFog (s : State) (x : FogLive) : State := { s with fog := x }
/-- The state with another Heat Share Engine. -/
def State.setHeat (s : State) (x : HeatLive) : State := { s with heat := x }
/-- The state with another Lighting Engine. -/
def State.setLight (s : State) (x : LightLive) : State := { s with light := x }
/-- The state with other Output Generators. -/
def State.setGens (s : State) (x : Generators) : State := { s with gens := x }
/-- The state with another Field Pins block. -/
def State.setPins (s : State) (x : FieldPins) : State := { s with pins := x }
/-- The state with another Node Control. -/
def State.setNode (s : State) (x : NodeControl) : State := { s with node := x }
/-- The state with another Setup Port. -/
def State.setPort (s : State) (x : SetupPort) : State := { s with port := x }
/-- The state with the reset pin held or released. -/
def State.setResetHeld (s : State) (x : Bool) : State := { s with resetHeld := x }
/-- The state with another count of free readings. -/
def State.setFreeCount (s : State) (x : Nat) : State := { s with freeCount := x }
/-- The state with another queue of waiting commands. -/
def State.setPending (s : State) (x : List Instr) : State := { s with pending := x }

end Sys2Proof.Machine
end

