-- ==== Sys2Proof/Machine/Flags.lean ====
section
/-!
DEFINITION. The flags the blocks keep for others: the causes and the attention condition (R159, R160), the error score with
its degraded condition (R53), the conditions on the node state that the rules gate by, and the two vector operations every
block uses.
-/
namespace Sys2Proof.Machine

/-- What a meaning answers. -/
abbrev Answer := Host.Outcome State Fault Refusal

/-- The event takes its effect where it can occur, and is no event where it cannot: the state is then left as it is (log
entry 1). -/
def takenIf (occurs : Bool) (s t : State) : Answer := .next (if occurs then t else s)

/-- A vector with its element i replaced. -/
def setAt {α : Type} {n : Nat} (v : Vector α n) (i : Fin n) (x : α) : Vector α n := v.set i.val x i.isLt

/-- A vector with every element recomputed from its index and its value. -/
def mapAt {α β : Type} {n : Nat} (v : Vector α n) (g : Fin n → α → β) : Vector β n := Vector.ofFn fun i => g i v[i]

/-- LISTEN, RUN or MUTE: the states in which reception is on and the blocks' timers run (R7, R28, R56, R59, R75, R107,
R124, R127, R148). -/
def operatingIn : NodeState → Bool
  | .unset => false
  | .starting => false
  | .listen => true
  | .run => true
  | .mute _ => true

/-- LISTEN or RUN: the states in which frames are offered and attempted (R46, R56). -/
def mayTransmitIn : NodeState → Bool
  | .listen => true
  | .run => true
  | _ => false

/-- Whether the node is in LISTEN, RUN or MUTE. -/
def State.operating (s : State) : Bool := operatingIn s.node.state

/-- The index of a cause (Table 12-11). -/
def causeIndex : Cause → Fin 12
  | .addressClash => 0
  | .lineStuck => 1
  | .lineDegraded => 2
  | .frameDropped => 3
  | .cueDropped => 4
  | .peerOverflow => 5
  | .sensorFailed => 6
  | .zeroRange => 7
  | .iceWarm => 8
  | .fogVisible => 9
  | .backupOn => 10
  | .phaseSplit => 11

/-- Raising a cause sets its flag and adds 1 to its count; a count at 255 stays at 255 (R159). -/
def CauseEntry.raised (e : CauseEntry) : CauseEntry := { flag := true, count := min 255 (e.count + 1) }

/-- A cause raised in the cause record (R159). -/
def State.raise (s : State) (c : Cause) : State :=
  s.setNode { s.node with causes := setAt s.node.causes (causeIndex c) (s.node.causes[causeIndex c]).raised }

/-- A cause raised where a condition holds. -/
def State.raiseIf (s : State) (b : Bool) (c : Cause) : State := if b then s.raise c else s

/-- A cause raised once for each of `n` occurrences. -/
def State.raiseTimes (s : State) (c : Cause) : Nat → State
  | 0 => s
  | n + 1 => (s.raise c).raiseTimes c n

/-- Every flag clear and every count 0, and the captured cause set absent: at each entry into STARTING (R159). -/
def State.clearCauses (s : State) : State :=
  (s.setNode { s.node with causes := Vector.replicate 12 .clear }).setPort { s.port with capturedSet := none }

/-- The attention condition: some cause in the attention mask has its flag set (R160). It is re-derived at every raise and
clearing, so it is a function of the record and the mask at every moment. -/
def attention (s : State) : Bool :=
  (List.finRange 12).any fun i => s.cfg.node.mask.getLsbD i.val && (s.node.causes[i]).flag

/-- A rise of the error score by 8, saturating at 255, with degraded set and LINE_DEGRADED raised where it reaches 96 while
degraded is clear (R53). -/
def State.scoreUp (s : State) : State :=
  let score := min 255 (s.line.score + 8)
  let sets := decide (96 ≤ score) && !s.line.degraded
  (s.setLine { s.line with score := score, degraded := s.line.degraded || sets }).raiseIf sets .lineDegraded

/-- A fall of the error score by 1, not below 0, with degraded cleared where it falls below 32 (R53). -/
def State.scoreDown (s : State) : State :=
  let score := s.line.score - 1
  s.setLine { s.line with score := score, degraded := s.line.degraded && !decide (score < 32) }

end Sys2Proof.Machine
end

