-- ==== Sys2Proof/Machine/Operands.lean ====
section
/-!
DEFINITION. What the blocks read: the value and quality of a binding (R3), the paths a node has by its bindings (R59, R74,
R90), and the levels of the field pins (R146, R147).
-/
namespace Sys2Proof.Machine

/-- The pair a job receives for a binding (R3). -/
structure Reading where
  value : Int
  quality : Quality
deriving DecidableEq, Repr

/-- The configuration that the blocks go by. Written configuration takes no effect on any block until START (R167), and a node in
UNSET has had no START since power-on or reset pin assertion, so in UNSET it is the power-on configuration; after START it is the one
written, which then stands (DEDUCED, log entry 32). -/
def State.applied (s : State) : Configuration := if s.node.state = .unset then .powerOn else s.cfg

/-- The channel that carries a binding, the lowest index first; START lets no binding appear twice (R2, R3). -/
def channelOf (cfg : Configuration) (b : Binding) : Option (Fin 12) :=
  (List.finRange 12).find? fun n => decide ((cfg.channels[n]).binding = some b)

/-- Whether some channel carries the binding. -/
def bound (cfg : Configuration) (b : Binding) : Bool := (channelOf cfg b).isSome

/-- The current value and quality of the channel that carries a binding, or "absent" (R3). -/
def readBinding (s : State) (b : Binding) : Option Reading :=
  (channelOf s.cfg b).map fun n =>
    { value := (s.meas.channels[n]).value, quality := (s.meas.channels[n]).quality }

/-- A node with ice carries ICE_SURFACE (chapter 4). -/
def hasIce (cfg : Configuration) : Bool := bound cfg .iceSurface

/-- A node with a margin path has all three margin bindings (R74). -/
def hasMarginPath (cfg : Configuration) : Bool :=
  bound cfg .bowlAirT && bound cfg .bowlAirRh && bound cfg .iceLayerAir

/-- A node with a beam path has FOG_BEAM (R74). -/
def hasBeamPath (cfg : Configuration) : Bool := bound cfg .fogBeam

/-- A node has a source when all three source bindings are bound (R90). -/
def hasSource (cfg : Configuration) : Bool :=
  bound cfg .sourceSupplyT && bound cfg .sourceReturnT && bound cfg .sourceFlow

/-- A node publishes RADIANT when any lighting channel has a coefficient above 0 (R21, R112). -/
def publishesRadiant (cfg : Configuration) : Bool := (List.finRange 8).any fun n => decide (0 < cfg.coefficients[n])

/-- The status period in milliseconds (R16). -/
def periodMs (cfg : Configuration) : Nat := 250 * (cfg.node.period + 1)

/-- The generator's level in its active slot (R132). -/
def Generator.activeLevel (g : Generator) : Nat :=
  match g.active with
  | .a => g.slotA
  | .b => g.slotB

/-- The gated output of a dimmer generator: its output, but low while the strobe is ACTIVE in OFF_TIME (R140). -/
def Dimmer.gated (d : Dimmer) : Bool := d.gen.output && !(d.strobe.active && decide (d.strobe.phase = .offTime))

/-- Whether a function is an output function (R144). -/
def isOutputFunction : PinFunction → Bool
  | .cueIn _ => false
  | .input => false
  | _ => true

/-- The logical level of an output function (Table 9-2); an input function has none and reads low here. -/
def logicalLevel (s : State) : PinFunction → Bool
  | .dimmer n => (s.gens.dimmers[n]).gated
  | .valve n => (s.gens.valves[n]).output
  | .backup n => (s.heat.loops[n]).backup
  | .fan => s.fog.fanDemand
  | .attention => attention s
  | .outHigh => true
  | .outLow => false
  | .cueIn _ => false
  | .input => false

/-- The level under a polarity: itself, or its inverse (R146, R148). -/
def underPolarity (p : Polarity) (level : Bool) : Bool :=
  match p with
  | .normal => level
  | .inverted => !level

/-- The level the node drives at a pin, or nothing where the pin is released: an output function drives from the entry into
STARTING on, and OPEN_DRAIN drives only a low pin level (R146). -/
def pinDrive (s : State) (n : Fin 24) : Option Bool :=
  if s.node.state = .unset || !isOutputFunction (s.cfg.pins[n]).function then none
  else
    let level := underPolarity (s.cfg.pins[n]).polarity (logicalLevel s (s.cfg.pins[n]).function)
    match (s.cfg.pins[n]).drive with
    | .pushPull => some level
    | .openDrain => if level then none else some false

/-- Whether the pull-up acts at a pin: on input functions, while pin functions are applied (Table 9-3). -/
def pullUpActs (s : State) (n : Fin 24) : Bool :=
  !(decide (s.node.state = .unset)) && !isOutputFunction (s.cfg.pins[n]).function && (s.cfg.pins[n]).pullUp

/-- The raw level of a pin (R147): the level it drives unless the board overpowers it; on a released pin, the level the board
or the outside device holds; with nothing held there, high under an acting pull-up and otherwise a free value. -/
def rawLevel (s : State) (n : Fin 24) : Bool :=
  match s.pins.board[n], pinDrive s n with
  | .forcedLow, _ => false
  | .forcedHigh, _ => true
  | _, some level => level
  | .low, none => false
  | .high, none => true
  | .opened, none => if pullUpActs s n then true else Config.floatingLevel s.freeCount n.val

/-- The pin that carries a function, if one does; START lets a cue-input function appear once (R145). -/
def pinOf (cfg : Configuration) (f : PinFunction) : Option (Fin 24) :=
  (List.finRange 24).find? fun n => decide ((cfg.pins[n]).function = f)

end Sys2Proof.Machine
end

