-- ==== Sys2Proof/Machine/Generators.lean ====
section
/-!
DEFINITION. The Output Generators (chapter 8): writing a level, the period start, the advance of the count, the count that
reaches the level and the strobe, and the meanings of the three rows about them.
-/
namespace Sys2Proof.Machine

/-- The other slot (R132). -/
def otherSlot : Slot → Slot
  | .a => .b
  | .b => .a

/-- A level placed in the inactive slot, with the written marker set; the active slot, the count and the output are not
touched (R134). -/
def Generator.place (g : Generator) (level : Nat) : Generator :=
  match g.active with
  | .a => { g with slotB := level, written := true }
  | .b => { g with slotA := level, written := true }

/-- The period start of R135, in its three steps. -/
def Generator.periodStart (g : Generator) : Generator :=
  let g' : Generator := { g with active := if g.written then otherSlot g.active else g.active, written := false, count := 0, part := 0 }
  { g' with output := decide (0 < g'.activeLevel) }

/-- A write reaching a generator: R134 on a RUNNING one; on an OFF one it is placed in the same way and that moment is the
first period start (R133). -/
def Generator.write (g : Generator) (level : Nat) : Generator :=
  if g.running then g.place level else ({ g.place level with running := true } : Generator).periodStart

/-- Whether the count of the period under way has an active level of 1 to 999 still before it (R136). -/
def Generator.levelAhead (g : Generator) : Bool :=
  g.running && decide (0 < g.activeLevel) && decide (g.activeLevel < 1000) && decide (g.count < g.activeLevel)

/-- The count reaches the active level and the output goes low (R136). -/
def Generator.reachLevel (g : Generator) : Generator := { g with count := g.activeLevel, part := 0, output := false }

/-- Whether the period under way can end: the active level is 0 or 1000, or the count has reached it (R136). -/
def Generator.periodCanEnd (g : Generator) : Bool := g.running && !g.levelAhead

/-- Whether the next advance of the count is a row's event: it would bring the count to the active level or end the period
(R135, R136). -/
def Generator.atEvent (g : Generator) : Bool := (g.levelAhead && decide (g.count + 1 = g.activeLevel)) || decide (999 ≤ g.count)

/-- One idle step of 2 µs for a generator whose count time is `countTime` such steps: at each whole count time the count of a RUNNING
one advances by 1 (R136), up to the event that a row brings (DESIGN CHOICE, log entry 7). -/
def Generator.elapse (g : Generator) (countTime : Nat) : Generator :=
  if !g.running then g
  else if g.part + 1 < countTime then { g with part := g.part + 1 }
  else if g.atEvent then g
  else { g with count := g.count + 1, part := 0 }

/-- The count time of a valve generator, 2 ms, in steps of 2 µs; a dimmer generator's is one step (Table 8-2). -/
def valveCountTime : Nat := 1000

/-- A strobe handed to a dimmer generator: ACTIVE, in its on-time, with the scene's widths (R137). -/
def Strobe.begin (on off : Nat) : Strobe :=
  { active := true, phase := .onTime, onWidth := on, offWidth := off, counter := on }

/-- A strobe ended by a take without its mark; the widths are kept (R139). -/
def Strobe.finish (st : Strobe) : Strobe := { st with active := false, phase := .onTime, counter := 0 }

/-- An expiry of the 10 ms strobe timer of an ACTIVE strobe (R138). -/
def Strobe.expire (st : Strobe) : Strobe :=
  if st.counter - 1 = 0 then
    match st.phase with
    | .onTime => { st with phase := .offTime, counter := st.offWidth }
    | .offTime => { st with phase := .onTime, counter := st.onWidth }
  else { st with counter := st.counter - 1 }

/-- A level written to dimmer generator n (R134). -/
def State.writeDimmer (s : State) (n : Fin 8) (level : Nat) : State :=
  s.setGens { s.gens with
    dimmers := setAt s.gens.dimmers n { s.gens.dimmers[n] with gen := (s.gens.dimmers[n]).gen.write level } }

/-- A level written to valve generator n (R134). -/
def State.writeValve (s : State) (n : Fin 4) (level : Nat) : State :=
  s.setGens { s.gens with valves := setAt s.gens.valves n ((s.gens.valves[n]).write level) }

/-- The generator record of a generator. -/
def generatorAt (s : State) : GeneratorId → Generator
  | .dimmer n => (s.gens.dimmers[n]).gen
  | .valve n => s.gens.valves[n]

/-- The state with another record for a generator; a dimmer keeps its strobe. -/
def State.setGenerator (s : State) (g : GeneratorId) (x : Generator) : State :=
  match g with
  | .dimmer n => s.setGens { s.gens with dimmers := setAt s.gens.dimmers n { s.gens.dimmers[n] with gen := x } }
  | .valve n => s.setGens { s.gens with valves := setAt s.gens.valves n x }

/-- 2 µs pass for the generators: what an idle step does (R136, log entries 2 and 7). -/
def State.elapse (s : State) : State :=
  s.setGens
    { dimmers := mapAt s.gens.dimmers fun _ d => { d with gen := d.gen.elapse 1 }
      valves := mapAt s.gens.valves fun _ g => g.elapse valveCountTime }

/-- GENERATOR_PERIOD_START (R135): an OFF generator keeps no period timer, and no period ends before its count has reached an active
level of 1 to 999 (R136). The count times still left of the period have passed (log entry 7). -/
def execGeneratorPeriodStart (g : GeneratorId) (s : State) : Answer :=
  takenIf (generatorAt s g).periodCanEnd s (s.setGenerator g (generatorAt s g).periodStart)

/-- GENERATOR_COUNT_REACHES_LEVEL (R136): the count times still left before the level have passed (log entry 7). -/
def execGeneratorCountReachesLevel (g : GeneratorId) (s : State) : Answer :=
  takenIf (generatorAt s g).levelAhead s (s.setGenerator g (generatorAt s g).reachLevel)

/-- The state with another strobe record for dimmer generator n. -/
def State.setStrobe (s : State) (n : Fin 8) (x : Strobe) : State :=
  s.setGens { s.gens with dimmers := setAt s.gens.dimmers n { s.gens.dimmers[n] with strobe := x } }

/-- STROBE_TIMER_EXPIRY (R138): an INACTIVE strobe keeps no timer. -/
def execStrobeTimerExpiry (n : Fin 8) (s : State) : Answer :=
  takenIf (s.gens.dimmers[n]).strobe.active s (s.setStrobe n (s.gens.dimmers[n]).strobe.expire)

end Sys2Proof.Machine
end

