-- ==== Sys2Proof/Machine/Ops.lean ====
section
/-!
DEFINITION. The operations the blocks share: the transmit queue (R46 to R48), the entry into MUTE (R56, R105, R153), the
re-derivations of Fog Guard (R78, R85 to R87), the entry into LISTEN (R156) and the entry into STARTING (R156).
-/
namespace Sys2Proof.Machine

/-! ### The transmit queue -/

/-- Whether a staged frame is a CUE without the replay mark. -/
def stagedCue : Option Staged → Bool
  | some st => match st.queued.frame with
    | .cue _ => true
    | _ => false
  | none => false

/-- Whether a staged frame is a replay CUE. -/
def stagedReplay : Option Staged → Bool
  | some st => match st.queued.frame with
    | .replay _ => true
    | _ => false
  | none => false

/-- The CUE frames held in the queue and the stage together (Table 3-4). -/
def LineInterface.cuesHeld (l : LineInterface) : Nat := l.queue.cuePlaces.length + (stagedCue l.stage).toNat

/-- The queue with a frame newly offered in its place, at attempt number 0 (R46): STATUS and FOG replace, a CUE joins behind
the older one, a RECALL or a replay finds its place free. -/
def TxQueue.enter (q : TxQueue) (t : TxFrame) : TxQueue :=
  match t with
  | .status _ => { q with statusPlace := some { frame := t, attempt := 0 } }
  | .fog _ => { q with fogPlace := some { frame := t, attempt := 0 } }
  | .recall => { q with recallPlace := some { frame := t, attempt := 0 } }
  | .replay _ => { q with replayPlace := some { frame := t, attempt := 0 } }
  | .cue _ => { q with cuePlaces := q.cuePlaces ++ [{ frame := t, attempt := 0 }] }

/-- Whether an offered frame enters by Table 3-4. -/
def LineInterface.accepts (l : LineInterface) : TxFrame → Bool
  | .status _ => true
  | .fog _ => true
  | .recall => true
  | .replay _ => l.queue.replayPlace.isNone && !stagedReplay l.stage
  | .cue _ => decide (l.cuesHeld < 2)

/-- A frame offered to the transmit queue (R46): refused without a cause outside LISTEN and RUN; otherwise it enters, or is
refused by Table 3-4, a refused CUE raising CUE_DROPPED. -/
def State.offer (s : State) (t : TxFrame) : State :=
  if mayTransmitIn s.node.state then
    if s.line.accepts t then s.setLine { s.line with queue := s.line.queue.enter t }
    else s.raiseIf t.isCue .cueDropped
  else s

/-- A frame returned to its place after a failed attempt (R47, R48): a STATUS or FOG whose place holds a newer frame is
discarded, and a CUE is older than any that waits. -/
def TxQueue.giveBack (q : TxQueue) (x : Queued) : TxQueue :=
  match x.frame with
  | .status _ => { q with statusPlace := q.statusPlace.orElse fun _ => some x }
  | .fog _ => { q with fogPlace := q.fogPlace.orElse fun _ => some x }
  | .recall => { q with recallPlace := q.recallPlace.orElse fun _ => some x }
  | .replay _ => { q with replayPlace := q.replayPlace.orElse fun _ => some x }
  | .cue _ => { q with cuePlaces := x :: q.cuePlaces }

/-- The head of the queue, in the head order of R47. -/
def TxQueue.head (q : TxQueue) : Option Queued :=
  q.fogPlace.orElse fun _ => q.cuePlaces.head?.orElse fun _ => q.recallPlace.orElse fun _ =>
    q.replayPlace.orElse fun _ => q.statusPlace

/-- The queue without its head (R48). -/
def TxQueue.withoutHead (q : TxQueue) : TxQueue :=
  if q.fogPlace.isSome then { q with fogPlace := none }
  else if q.cuePlaces.isEmpty then
    if q.recallPlace.isSome then { q with recallPlace := none }
    else if q.replayPlace.isSome then { q with replayPlace := none }
    else { q with statusPlace := none }
  else { q with cuePlaces := q.cuePlaces.tail }

/-! ### Fog Guard's re-derivations -/

/-- The higher of two fog states (R85). -/
def higherFog (a b : FogLevel) : FogLevel := if fogCode a < fogCode b then b else a

/-- The highest fog state among a start value and the entries, FRESH or STALE (R85). -/
def highestFog (start : FogLevel) : List PeerEntry → FogLevel
  | [] => start
  | e :: rest => higherFog e.fog (highestFog start rest)

/-- The fan demand is on while E is ACT or FOG (R87). -/
def fanOf : FogLevel → Bool
  | .act => true
  | .fog => true
  | _ => false

/-- E re-derived from the own state and the entries, with the regeneration request, the curtail and the fan demand that
follow it (R85, R86, R87). -/
def State.rederiveE (s : State) : State :=
  let e := highestFog s.fog.own s.peers
  s.setFog { s.fog with effectiveLevel := e, regen := s.cfg.fog.regen e, curtail := s.cfg.fog.curtail e, fanDemand := fanOf e }

/-- The flood-in-view condition re-derived from the own flood and the entries' floods (R78). -/
def State.rederiveFlood (s : State) : State :=
  s.setFog { s.fog with floodInView := s.ice.flood || s.peers.any fun e => e.flood }

/-- The Peer Table's report to Fog Guard (R31): both conditions are re-derived. -/
def State.reportPeers (s : State) : State := s.rederiveFlood.rederiveE

/-! ### Entries into node states -/

/-- The state with another node state. -/
def State.setNodeState (s : State) (x : NodeState) : State := s.setNode { s.node with state := x }

/-- The loops after the own grants are set to 0 (R105). -/
def HeatLive.withoutGrants (h : HeatLive) : HeatLive := { h with loops := mapAt h.loops fun _ l => { l with grant := 0 } }

/-- The duty of each configured loop written as 0 to its valve generator, in ascending loop index (R105). -/
def State.writeZeroDuties (s : State) : State :=
  (List.finRange 4).foldl (fun (t : State) n =>
    if (t.cfg.loops[n]).cls.isSome then
      (t.setHeat { t.heat with loops := setAt t.heat.loops n { t.heat.loops[n] with duty := 0 } }).writeValve
        (t.cfg.loops[n]).valve 0
    else t) s

/-- An entry into MUTE from LISTEN or RUN (R153): the attempt under way stops and every frame is discarded without a cause
(R56), every own grant and every configured loop's duty becomes 0 (R105), and an entry from LISTEN discards the expiry
count (R18). -/
def State.enterMute (s : State) (k : MuteKind) : State :=
  let line : LineInterface :=
    { s.line with
      queue := .empty
      stage := none
      access := if s.line.access = .sending then .closed else s.line.access }
  let comp : Composer := if s.node.state = .listen then { s.comp with expiryCount := 0 } else s.comp
  ((((s.setLine line).setComp comp).setHeat s.heat.withoutGrants).writeZeroDuties).setNodeState (.mute k)

/-- What every entry into LISTEN does, from STARTING or from a stuck-line MUTE: reception is on with no release observed
(R36), the expiry count is 0 (R18), the LISTEN take marker is clear and a RECALL is offered (R128). -/
def State.enterListen (s : State) : State :=
  ((((s.setNodeState .listen).setLine { s.line with access := .noRelease }).setComp
    { s.comp with expiryCount := 0 }).setLight { s.light with takeMarker := false }).offer .recall

/-- The channels of kind other than UNUSED, in ascending index: those a scan converts (R7). -/
def usedChannels (cfg : Configuration) : List (Fin 12) :=
  (List.finRange 12).filter fun n => decide ((cfg.channels[n]).kind ≠ .unused)

/-- The channels that make a zero measurement at a start (R5). -/
def measuringChannels (cfg : Configuration) : List (Fin 12) :=
  (usedChannels cfg).filter fun n => (cfg.channels[n]).autoZero

/-- A cue input at the entry into LISTEN from STARTING: it samples only when some pin carries its function (R148). -/
def CueInput.atListen (c : CueInput) (carried : Bool) : CueInput := { c with sampling := carried }

/-- The entry into LISTEN at the end of STARTING (R156): the first scan begins (R7), cue-input sampling begins (R148), and
what every entry into LISTEN does. -/
def State.endStarting (s : State) : State :=
  ((s.setMeas { s.meas with scanSchedule := usedChannels s.cfg }).setPins
    { s.pins with
      cueInputs := mapAt s.pins.cueInputs fun n c => c.atListen (pinOf s.cfg (.cueIn n)).isSome }).enterListen

/-- STARTING ends at once where no reference conversion is still to be made (R5, R156). -/
def State.endStartingIfDone (s : State) : State := if s.meas.zeroSchedule.isEmpty then s.endStarting else s

/-- A channel's live fields at an entry into STARTING (R5, R15); an UNUSED channel keeps its own. -/
def ChannelLive.atStarting (c : ChannelLive) (cfg : ChannelConfig) : ChannelLive :=
  if cfg.kind = .unused then c
  else
    { c with
      ring := []
      quality := .doubt
      outRun := 0
      inRun := 0
      stepHold := 0
      zeroCorrection := 0
      zeroState := if cfg.autoZero then .measuring else .notTaken
      zeroCounts := [] }

/-- Ice Watch at an entry into STARTING (Table 4-3). -/
def IceLive.atStarting (i : IceLive) : IceLive :=
  { i with failureCount := 0, state := .firm, warmRun := 0, ring := [], floodTimer := 0, settled := none }

/-- Fog Guard at an entry into STARTING (Table 5-5). -/
def FogLive.atStarting (f : FogLive) (cfg : FogConfig) : FogLive :=
  { f with
    failureCount := 0
    floodInView := false
    marginState := .clear
    beamActive := false
    belowRun := 0
    clearRun := 0
    beamFog := false
    own := .clear
    effectiveLevel := .clear
    regen := cfg.regen .clear
    curtail := cfg.curtail .clear
    fanDemand := false }

/-- A loop at an entry into STARTING (Table 6-2). -/
def LoopLive.atStarting (l : LoopLive) : LoopLive :=
  { l with failureTimer := none, grant := 0, duty := 0, backup := false, holdCount := none }

/-- The Lighting Engine at an entry into STARTING (Table 7-1), but for the phase and the fades. -/
def LightLive.atStarting (l : LightLive) : LightLive :=
  { l with pendingCues := [], takeMarker := false, targetCap := 1000, slewedCap := 1000 }

/-- The entry into STARTING, by START or by RESTART (R156): each block's entry actions, and the cause record cleared (R159)
before anything the zero measurements may raise. -/
def State.enterStarting (s : State) : State :=
  (({ s with
      meas :=
        { channels := mapAt s.meas.channels fun n c => c.atStarting s.cfg.channels[n]
          zeroSchedule := (List.replicate 8 (measuringChannels s.cfg)).flatten
          scanSchedule := [] }
      comp := .powerOn
      peers := []
      line :=
        { s.line with queue := .empty, stage := none, access := .noRelease, score := 0, degraded := false }
      ice := s.ice.atStarting
      fog := s.fog.atStarting s.cfg.fog
      heat := { s.heat with loops := mapAt s.heat.loops fun _ l => l.atStarting }
      light := s.light.atStarting
      pins := { s.pins with cueInputs := Vector.replicate 2 .stopped } } : State).clearCauses).setNodeState .starting

/-- Every valve generator written 0 (R141): those of the configured loops by the Heat Share Engine (R110), the others by the
Output Generators block itself. R141 and Table 8-4 say that each then has its written marker set; for one that is still OFF the write is
its start, whose period start clears the marker at once, and the model follows R133 and R135 there (DESIGN CHOICE, log entry 36). -/
def State.writeZeroValves (s : State) : State := (List.finRange 4).foldl (fun (t : State) n => t.writeValve n 0) s

/-- A fade at an entry into STARTING by RESTART: HELD at its output level (Table 7-1). -/
def Fade.atRestart (f : Fade) : Fade := { f with state := .held, level := f.output }

end Sys2Proof.Machine
end

