-- ==== Sys2Proof/Machine/Measure.lean ====
section
/-!
DEFINITION. The Measurement Unit (chapter 1): zero measurement, the scan, filtering, conversion and quality, and the
meanings of the six rows about them.
-/
namespace Sys2Proof.Machine

/-- Raw counts of 3 to 4092 are in range (R8). -/
def inRange (raw : Counts) : Bool := decide (3 ≤ raw.toNat) && decide (raw.toNat ≤ 4092)

/-- The trimmed counts of an in-range conversion (R8). -/
def ChannelLive.trimmed (c : ChannelLive) (cfg : ChannelConfig) (raw : Counts) : Nat :=
  (clamp 0 4095 ((raw.toNat : Int) + cfg.trim + c.zeroCorrection)).toNat

/-- The value of filtered counts c by the channel's kind (Table 1-10); an UNUSED channel has no conversion, and reads 0 here. -/
def valueOf (cfg : ChannelConfig) (c : Nat) : Int :=
  match cfg.kind with
  | .temp => (c * 1500 / 4095 : Nat) - 500
  | .humid => (c * 1000 / 4095 : Nat)
  | .flow => (c * cfg.fullScale / 4095 : Nat)
  | .beam => (c * 1000 / 4095 : Nat)
  | .unused => 0

/-- A sample entering a ring of at most `n`, oldest first: a full ring loses its oldest (R9, R63). -/
def pushRing {α : Type} (n : Nat) (ring : List α) (x : α) : List α :=
  (ring ++ [x]).drop ((ring ++ [x]).length - n)

/-- The filtered counts: the sum of the samples held, divided by their number and rounded down (R9). -/
def filteredCounts (ring : List Nat) : Nat := ring.sum / ring.length

/-- Whether the newly computed value is a step (R12): the limit is not 0, a value of the same filling of the ring went before,
and the two differ by more than the limit. -/
def ChannelLive.steps (c : ChannelLive) (cfg : ChannelConfig) (value : Int) : Bool :=
  decide (cfg.stepLimit ≠ 0) && !c.ring.isEmpty && decide ((cfg.stepLimit : Int) < |value - c.value|)

/-- A conversion whose sample enters the ring (R9 to R12): the value is computed, the step check made, the quality judged with
the hold as it then stands, and the hold reduced unless this conversion set it. -/
def ChannelLive.enterSample (c : ChannelLive) (cfg : ChannelConfig) (sample : Nat) : ChannelLive :=
  let ring := pushRing 4 c.ring sample
  let value := valueOf cfg (filteredCounts ring)
  let stepped := c.steps cfg value
  let hold := if stepped then 10 else c.stepHold
  { c with
    ring := ring
    value := value
    quality := if ring.length = 4 ∧ hold = 0 then .good else .doubt
    stepHold := if stepped then 10 else hold - 1 }

/-- Recovery of a FAILED channel at its eighth in-range conversion (R14, steps 1 to 6). -/
def ChannelLive.recover (c : ChannelLive) (cfg : ChannelConfig) (sample : Nat) : ChannelLive :=
  { c with
    ring := [sample]
    inRun := 0
    stepHold := 0
    value := valueOf cfg (filteredCounts [sample])
    quality := .doubt }

/-- An out-of-range conversion (R13). -/
def ChannelLive.outOfRange (c : ChannelLive) : ChannelLive :=
  let run := min 3 (c.outRun + 1)
  if run = 3 ∧ c.quality ≠ .failed then { c with outRun := run, inRun := 0, quality := .failed, stepHold := 0 }
  else { c with outRun := run, inRun := 0 }

/-- An in-range conversion of a FAILED channel (R14). -/
def ChannelLive.inRangeFailed (c : ChannelLive) (cfg : ChannelConfig) (sample : Nat) : ChannelLive :=
  if 8 ≤ c.inRun + 1 then c.recover cfg sample else { c with inRun := c.inRun + 1 }

/-- One conversion of a channel, in the order of R7; a channel whose zero state is OUT_OF_RANGE only has its last raw counts
updated (R6). -/
def ChannelLive.convert (c : ChannelLive) (cfg : ChannelConfig) (raw : Counts) : ChannelLive :=
  let c' : ChannelLive := { c with lastRaw := raw.toNat }
  if c.zeroState = .outOfRange then c'
  else if inRange raw then
    if c.quality = .failed then ({ c' with outRun := 0 } : ChannelLive).inRangeFailed cfg (c.trimmed cfg raw)
    else ({ c' with outRun := 0 } : ChannelLive).enterSample cfg (c.trimmed cfg raw)
  else c'.outOfRange

/-- Whether a channel newly becomes FAILED between two records. -/
def becomesFailed (c c' : ChannelLive) : Bool := decide (c.quality ≠ .failed) && decide (c'.quality = .failed)

/-- The zero correction of eight reference counts: 2048 minus their mean, the mean rounded down (R5). -/
def zeroCorrectionOf (counts : List Nat) : Int := 2048 - ((counts.sum / 8 : Nat) : Int)

/-- One reference conversion of a measuring channel (R5); at the eighth its correction is accepted, or rejected by R6. -/
def ChannelLive.takeReference (c : ChannelLive) (raw : Counts) : ChannelLive :=
  let counts := c.zeroCounts ++ [raw.toNat]
  if counts.length < 8 then { c with zeroCounts := counts }
  else if |zeroCorrectionOf counts| ≤ 200 then
    { c with zeroCounts := [], zeroCorrection := zeroCorrectionOf counts, zeroState := .done }
  else
    { c with zeroCounts := [], zeroCorrection := zeroCorrectionOf counts, zeroState := .outOfRange, quality := .failed }

/-- Whether a reference conversion is the eighth and its correction is rejected (R6). -/
def ChannelLive.rejectsZero (c : ChannelLive) (raw : Counts) : Bool :=
  decide (8 ≤ (c.zeroCounts ++ [raw.toNat]).length) && decide (200 < |zeroCorrectionOf (c.zeroCounts ++ [raw.toNat])|)

/-- The next reference conversion to be made is that of channel n (R5: eight rounds, ascending index). -/
def zeroConversionDue (n : Fin 12) (s : State) : Bool :=
  decide (s.node.state = .starting) && decide (s.meas.zeroSchedule.head? = some n)

/-- A reference conversion of channel n completes; a rejected correction raises ZERO_RANGE (R6), and the last conversion of all
ends STARTING (R156). -/
def State.zeroConvert (s : State) (n : Fin 12) (raw : Counts) : State :=
  let c := (s.meas.channels[n]).takeReference raw
  ((s.setMeas { s.meas with
      channels := setAt s.meas.channels n c, zeroSchedule := s.meas.zeroSchedule.tail }).raiseIf
        ((s.meas.channels[n]).rejectsZero raw) .zeroRange).endStartingIfDone

/-- The next conversion of the scan under way is that of channel n (R7: each used channel once, ascending index). -/
def conversionDue (n : Fin 12) (s : State) : Bool :=
  s.operating && decide (s.meas.scanSchedule.head? = some n)

/-- A conversion of channel n completes; an entry into FAILED raises SENSOR_FAILED (R13). -/
def State.convertChannel (s : State) (n : Fin 12) (raw : Counts) : State :=
  let c := (s.meas.channels[n]).convert s.cfg.channels[n] raw
  (s.setMeas { s.meas with
      channels := setAt s.meas.channels n c, scanSchedule := s.meas.scanSchedule.tail }).raiseIf
        (becomesFailed s.meas.channels[n] c) .sensorFailed

/-- ZERO_REFERENCE_CONVERSION (R5, R6). -/
def execZeroReferenceConversion (n : Fin 12) (raw : Counts) (s : State) : Answer :=
  takenIf (zeroConversionDue n s) s (s.zeroConvert n raw)

/-- ZERO_MEASUREMENT_COMPLETE (R5, R6): the reference conversion of channel n that is its eighth. -/
def execZeroMeasurementComplete (n : Fin 12) (raw : Counts) (s : State) : Answer :=
  takenIf (zeroConversionDue n s && decide ((s.meas.channels[n]).zeroCounts.length = 7)) s (s.zeroConvert n raw)

/-- SCAN (R7): a new scan begins where every conversion of the one before has completed. -/
def execScan (s : State) : Answer :=
  takenIf (s.operating && s.meas.scanSchedule.isEmpty) s (s.setMeas { s.meas with scanSchedule := usedChannels s.cfg })

/-- CHANNEL_CONVERSION (R7 to R14). -/
def execChannelConversion (n : Fin 12) (raw : Counts) (s : State) : Answer :=
  takenIf (conversionDue n s) s (s.convertChannel n raw)

/-- SENSOR_FAILED (R13): the conversion of channel n that makes it FAILED. -/
def execSensorFailed (n : Fin 12) (raw : Counts) (s : State) : Answer :=
  takenIf (conversionDue n s && becomesFailed s.meas.channels[n] ((s.meas.channels[n]).convert s.cfg.channels[n] raw)) s
    (s.convertChannel n raw)

/-- CHANNEL_RECOVERY (R14): the conversion of channel n at which it leaves FAILED. -/
def execChannelRecovery (n : Fin 12) (raw : Counts) (s : State) : Answer :=
  takenIf (conversionDue n s && becomesFailed ((s.meas.channels[n]).convert s.cfg.channels[n] raw) s.meas.channels[n]) s
    (s.convertChannel n raw)

end Sys2Proof.Machine
end

