-- ==== Sys2Proof/Machine/Ice.lean ====
section
/-!
DEFINITION. Ice Watch (chapter 4): the ice evaluation in its eight steps, and the meanings of the four rows about it.
-/
namespace Sys2Proof.Machine

/-- What an ice evaluation reads (R59): the surface pair, the phase, and the radiant total's parts. -/
structure IceInputs where
  surface : Reading
  phase : Phase
  total : Nat
deriving DecidableEq, Repr

/-- The surface reads FAILED. -/
def IceInputs.surfaceFailed (x : IceInputs) : Bool := decide (x.surface.quality = .failed)

/-- The failure count after step 2 (R61). -/
def iceFailureCount (x : IceInputs) (i : IceLive) : Nat := if x.surfaceFailed then min 61 (i.failureCount + 1) else 0

/-- The ice margin after step 2: formed by R60, or held by R61. -/
def iceMargin (cfg : IceConfig) (x : IceInputs) (i : IceLive) : Int :=
  if x.surfaceFailed then i.margin else clamp (-500) 500 (cfg.ceiling x.phase - x.surface.value)

/-- Whether the flood step makes a detection (R64). -/
def floodDetected (cfg : IceConfig) (x : IceInputs) (i : IceLive) : Bool :=
  !x.surfaceFailed && decide (i.ring.length = 10) && (decide (x.phase = .interval) || decide (x.phase = .idle)) &&
    decide (cfg.floodRise ≤ x.surface.value - i.ring.headD 0)

/-- The flood ring after step 3 (R63). -/
def floodRingAfter (x : IceInputs) (i : IceLive) : List Int := if x.surfaceFailed then [] else pushRing 10 i.ring x.surface.value

/-- The flood timer after step 3 (R64). -/
def floodTimerAfter (cfg : IceConfig) (x : IceInputs) (i : IceLive) : Nat :=
  if floodDetected cfg x i then cfg.floodTime else i.floodTimer - 1

/-- The WARM run at step 4, with the flood condition as the flood step has left it (R62). -/
def warmRunAfter (margin : Int) (flood : Bool) (run : Nat) : Nat := if margin < 0 ∧ !flood then min 30 (run + 1) else 0

/-- The ice state of Table 4-2. -/
def iceStateAfter (cfg : IceConfig) (margin : Int) (run : Nat) (before : IceState) : IceState :=
  if cfg.watch ≤ margin then .firm
  else if 0 ≤ margin then .soft
  else if before = .warm then .warm
  else if run = 30 then .warm
  else .soft

/-- The settled radiant as it stands at step 6: the one held, or T itself at the first evaluation after a start (R67). -/
def settledAtStart (total : Nat) (i : IceLive) : Int := i.settled.getD (total : Int)

/-- The predicted margin (R68). -/
def predictedMargin (cfg : IceConfig) (margin : Int) (total : Nat) (settled : Int) : Int :=
  clamp (-500) 500 (margin - floorDiv (max 0 ((total : Int) - settled) * (cfg.sensitivity : Int)) 1000)

/-- The settled radiant moved toward T (R67, step 7). -/
def settledAfter (total : Nat) (settled : Int) : Int := settled + truncDiv ((total : Int) - settled) 32

/-- The own cap, the first case of R69 that applies. -/
def ownCap (cfg : IceConfig) (failureCount : Nat) (state : IceState) (predicted : Int) : Nat :=
  if failureCount = 61 then cfg.floor
  else if state = .warm then cfg.floor
  else if cfg.upper ≤ predicted then 1000
  else if predicted ≤ cfg.lower then cfg.floor
  else ((cfg.floor : Int) + floorDiv ((1000 - (cfg.floor : Int)) * (predicted - cfg.lower)) (cfg.upper - cfg.lower)).toNat

/-- One ice evaluation: the eight steps of R59. While the failure count stands at 61 the ice state and the WARM run are not
judged (R61). -/
def IceLive.evaluate (cfg : IceConfig) (x : IceInputs) (i : IceLive) : IceLive :=
  let failures := iceFailureCount x i
  let margin := iceMargin cfg x i
  let timer := floodTimerAfter cfg x i
  let run := if failures = 61 then i.warmRun else warmRunAfter margin (decide (0 < timer)) i.warmRun
  let state := if failures = 61 then i.state else iceStateAfter cfg margin run i.state
  let settled := settledAtStart x.total i
  let predicted := predictedMargin cfg margin x.total settled
  { margin := margin
    failureCount := failures
    state := state
    warmRun := run
    ring := floodRingAfter x i
    floodTimer := timer
    total := x.total
    settled := some (settledAfter x.total settled)
    predicted := predicted
    cap := ownCap cfg failures state predicted }

/-- The arena radiant total T: the own radiant and the radiant of every entry that has one, FRESH or STALE (R66). -/
def radiantTotal (own : Nat) (peers : List PeerEntry) : Nat := own + (peers.map fun e => e.radiant.getD 0).sum

/-- What the evaluation reads in state s, on a node with ice. -/
def iceInputs (s : State) (surface : Reading) : IceInputs :=
  { surface := surface, phase := s.light.phase, total := radiantTotal s.light.radiant s.peers }

/-- The ice evaluation of the node (R59): each entry into WARM raises ICE_WARM (R62), and each beginning and end of the flood is
reported to Fog Guard (R64, R65, R78). A node without ice runs none. -/
def State.evaluateIce (s : State) : State :=
  match readBinding s .iceSurface with
  | none => s
  | some r =>
    let i := s.ice.evaluate s.cfg.ice (iceInputs s r)
    let t := (s.setIce i).raiseIf (decide (s.ice.state ≠ .warm) && decide (i.state = .warm)) .iceWarm
    if s.ice.flood = i.flood then t else t.rederiveFlood

/-- The evaluation timer runs on a node with ice in LISTEN, RUN and MUTE (R59). -/
def iceTimerRuns (s : State) : Bool := s.operating && hasIce s.cfg

/-- ICE_EVALUATION (R59). -/
def execIceEvaluation (s : State) : Answer := takenIf (iceTimerRuns s) s s.evaluateIce

/-- FLOOD_END (R64): the ice evaluation at which the flood ends. -/
def execFloodEnd (s : State) : Answer :=
  takenIf (iceTimerRuns s && s.ice.flood && !s.evaluateIce.ice.flood) s s.evaluateIce

/-- ICE_WARM (R62): the ice evaluation at which the ice state becomes WARM. -/
def execIceWarm (s : State) : Answer :=
  takenIf (iceTimerRuns s && decide (s.ice.state ≠ .warm) && decide (s.evaluateIce.ice.state = .warm)) s s.evaluateIce

/-- ICE_HOLD_END (R61): the ice evaluation at which the failure count reaches 61. -/
def execIceHoldEnd (s : State) : Answer :=
  takenIf (iceTimerRuns s && decide (s.ice.failureCount < 61) && decide (s.evaluateIce.ice.failureCount = 61)) s
    s.evaluateIce

end Sys2Proof.Machine
end

