-- ==== Sys2Proof/Machine/Fog.lean ====
section
/-!
DEFINITION. Fog Guard (chapter 5): the fog evaluation in its six steps, and the meanings of the four rows about it.
-/
namespace Sys2Proof.Machine

/-- The three margin inputs of a node with a margin path (R74, R76). -/
structure MarginInputs where
  bowl : Reading
  humidity : Reading
  layer : Reading
deriving DecidableEq, Repr

/-- One or more of the margin inputs reads FAILED (R77). -/
def MarginInputs.anyFailed (x : MarginInputs) : Bool :=
  decide (x.bowl.quality = .failed) || decide (x.humidity.quality = .failed) || decide (x.layer.quality = .failed)

/-- The dew point (R76). -/
def dewPointOf (bowl humidity : Int) : Int := bowl - floorDiv (1000 - clamp 500 1000 humidity) 5

/-- The fog margin (R76). -/
def fogMargin (layer dew : Int) : Int := clamp (-500) 500 (layer - dew)

/-- The effective margin (R78). -/
def effectiveMargin (cfg : FogConfig) (margin : Int) (floodInView : Bool) : Int :=
  clamp (-500) 500 (if floodInView then margin - cfg.allowance else margin)

/-- The hysteresis judgement of Table 5-3. -/
def judgeMargin (cfg : FogConfig) (eff : Int) (before : FogLevel) : FogLevel :=
  match before with
  | .clear => if eff ≤ cfg.act then .act else if eff ≤ cfg.watch then .watch else .clear
  | .watch => if eff ≤ cfg.act then .act else if cfg.watch + cfg.hysteresis < eff then .clear else .watch
  | _ =>
    if cfg.watch + cfg.hysteresis < eff then .clear else if cfg.act + cfg.hysteresis < eff then .watch else .act

/-- The judgement without hysteresis (R79). -/
def judgePlain (cfg : FogConfig) (eff : Int) : FogLevel :=
  if eff ≤ cfg.act then .act else if eff ≤ cfg.watch then .watch else .clear

/-- The unavailability floor: with the failure count at 61, CLEAR is raised to WATCH (R77). -/
def unavailabilityFloor (failures : Nat) (level : FogLevel) : FogLevel :=
  if failures = 61 ∧ level = .clear then .watch else level

/-- Steps 2 to 4 on a node with a margin path (R76 to R79). -/
def FogLive.marginSteps (cfg : FogConfig) (x : MarginInputs) (f : FogLive) : FogLive :=
  let failures := if x.anyFailed then min 61 (f.failureCount + 1) else 0
  let dew := if x.anyFailed then f.dewPoint else dewPointOf x.bowl.value x.humidity.value
  let margin := if x.anyFailed then f.margin else fogMargin x.layer.value dew
  let eff := effectiveMargin cfg margin f.floodInView
  { f with
    dewPoint := dew
    margin := margin
    effective := eff
    failureCount := failures
    marginState := unavailabilityFloor failures (judgeMargin cfg eff f.marginState) }

/-- The margin state a node takes on leaving beam fog: the judgement without hysteresis, or CLEAR without a margin path (R81). -/
def marginOnLeaving (cfg : FogConfig) (hasMargin : Bool) (f : FogLive) : FogLevel :=
  if hasMargin then unavailabilityFloor f.failureCount (judgePlain cfg f.effective) else .clear

/-- Step 5 with a FAILED beam reading (R82). -/
def FogLive.beamLost (cfg : FogConfig) (hasMargin : Bool) (f : FogLive) : FogLive :=
  { f with
    beamActive := false
    belowRun := 0
    clearRun := 0
    beamFog := false
    marginState := if f.beamFog then marginOnLeaving cfg hasMargin f else f.marginState }

/-- Step 5 with a usable reading b while beam fog is clear (R80). -/
def FogLive.beamWatch (cfg : FogConfig) (b : Int) (f : FogLive) : FogLive :=
  let run := if b < cfg.beamThreshold then f.belowRun + 1 else 0
  if b < cfg.beamThreshold ∧ cfg.beamHold ≤ run then
    { f with beamActive := true, beamFog := true, belowRun := 0, clearRun := 0 }
  else { f with beamActive := true, belowRun := run }

/-- Step 5 with a usable reading b while beam fog is set (R81). -/
def FogLive.beamClearing (cfg : FogConfig) (hasMargin : Bool) (b : Int) (f : FogLive) : FogLive :=
  let run := if cfg.beamThreshold + cfg.beamHysteresis ≤ b then f.clearRun + 1 else 0
  if cfg.beamThreshold + cfg.beamHysteresis ≤ b ∧ cfg.clearTime ≤ run then
    { f with beamActive := true, beamFog := false, clearRun := 0, marginState := marginOnLeaving cfg hasMargin f }
  else { f with beamActive := true, clearRun := run }

/-- The beam step (R80 to R82); a node without a beam path passes over it. -/
def FogLive.beamStep (cfg : FogConfig) (hasMargin : Bool) (beam : Option Reading) (f : FogLive) : FogLive :=
  match beam with
  | none => f
  | some r =>
    if r.quality = .failed then f.beamLost cfg hasMargin
    else if f.beamFog then f.beamClearing cfg hasMargin r.value
    else f.beamWatch cfg r.value

/-- Steps 1 to 6 of a fog evaluation on Fog Guard's own record, but for what a change of the own state sets off (R75, R83). -/
def FogLive.evaluate (cfg : FogConfig) (margin : Option MarginInputs) (beam : Option Reading) (f : FogLive) : FogLive :=
  let f1 := match margin with
    | some x => f.marginSteps cfg x
    | none => { f with marginState := .clear }
  let f2 := f1.beamStep cfg margin.isSome beam
  { f2 with own := if f2.beamFog then .fog else f2.marginState }

/-- The margin inputs of a node with a margin path (R74). -/
def marginInputs (s : State) : Option MarginInputs :=
  match readBinding s .bowlAirT, readBinding s .bowlAirRh, readBinding s .iceLayerAir with
  | some t, some h, some l => some { bowl := t, humidity := h, layer := l }
  | _, _, _ => none

/-- The FOG frame that a change of the own state calls for (R84): FOG_ON on entry into FOG, FOG_OFF on leaving it. -/
def State.offerFogChange (s : State) (before : FogLevel) : State :=
  if s.fog.own = .fog ∧ before ≠ .fog then s.offer (.fog true)
  else if s.fog.own ≠ .fog ∧ before = .fog then s.offer (.fog false)
  else s

/-- The fog evaluation of the node (R75): each setting of beam fog raises FOG_VISIBLE (R80), and each change of the own state
re-derives E and offers the FOG frame it calls for (R83, R84, R85). -/
def State.evaluateFog (s : State) : State :=
  let f := s.fog.evaluate s.cfg.fog (marginInputs s) (readBinding s .fogBeam)
  let t := (s.setFog f).raiseIf (!s.fog.beamFog && f.beamFog) .fogVisible
  if f.own = s.fog.own then t else t.rederiveE.offerFogChange s.fog.own

/-- FOG_EVALUATION (R75): the timer runs on every node in LISTEN, RUN and MUTE. -/
def execFogEvaluation (s : State) : Answer := takenIf s.operating s s.evaluateFog

/-- BEAM_FOG_SET (R80): the fog evaluation at which beam fog is set. -/
def execBeamFogSet (s : State) : Answer :=
  takenIf (s.operating && !s.fog.beamFog && s.evaluateFog.fog.beamFog) s s.evaluateFog

/-- BEAM_FOG_CLEAR (R81): the fog evaluation at which the clear run ends beam fog, the beam path ACTIVE. -/
def execBeamFogClear (s : State) : Answer :=
  takenIf (s.operating && s.fog.beamFog && !s.evaluateFog.fog.beamFog && s.evaluateFog.fog.beamActive) s s.evaluateFog

/-- MARGIN_UNAVAILABLE (R77): the fog evaluation at which the failure count reaches 61. -/
def execMarginUnavailable (s : State) : Answer :=
  takenIf (s.operating && decide (s.fog.failureCount < 61) && decide (s.evaluateFog.fog.failureCount = 61)) s
    s.evaluateFog

end Sys2Proof.Machine
end

