-- ==== Sys2Proof/Machine/Peers.lean ====
section
/-!
DEFINITION. The Peer Table (chapter 2, sections 2.3 to 2.6): storing a delivered STATUS, a delivered FOG, ageing, the
phase-split check, and the meanings of the three ageing rows.
-/
namespace Sys2Proof.Machine

/-- The entry of an address, if the table holds one (R23). -/
def entryAt (peers : List PeerEntry) (a : Nat) : Option PeerEntry := peers.find? fun e => decide (e.address = a)

/-- The table with the entry of one address rewritten. -/
def updateEntry (peers : List PeerEntry) (a : Nat) (g : PeerEntry → PeerEntry) : List PeerEntry :=
  peers.map fun e => if e.address = a then g e else e

/-- An entry put at the position that keeps ascending address order (R23, R25). -/
def insertEntry (x : PeerEntry) : List PeerEntry → List PeerEntry
  | [] => [x]
  | e :: rest => if x.address < e.address then x :: e :: rest else e :: insertEntry x rest

/-- A stored demand record: an amount above 4000 is stored as 4000 (R24). -/
def storedDemand (d : Demand) : Demand := { d with amount := min 4000 d.amount }

/-- An entry with every field marked as set from the frame replaced by the frame's, clamped by R24, the age 0 and the freshness
FRESH (R25, R26, R27). -/
def PeerEntry.store (e : PeerEntry) (c : StatusContent) : PeerEntry :=
  { e with
    period := c.period
    lastSequence := c.sequence
    age := 0
    stale := false
    phase := c.phase
    fog := c.fog
    flood := c.flood
    degraded := c.degraded
    cap := c.cap.map (min 1000)
    radiant := c.radiant.map (min 4000)
    offer := min 6000 c.offer
    offerDoubt := c.offerDoubt
    demands := c.demands.map storedDemand }

/-- A complete rewrite by a STATUS carrying FIRST (R26). -/
def PeerEntry.rewrite (e : PeerEntry) (c : StatusContent) : PeerEntry :=
  { e.store c with gapCount := 0, splitCounter := 0, lastCueSerial := none }

/-- A new publication: the gap count grows by (s − l − 1) mod 16, saturating at 255 (R27). -/
def PeerEntry.publish (e : PeerEntry) (c : StatusContent) : PeerEntry :=
  { e.store c with
    gapCount := min 255 (e.gapCount + (((c.sequence : Int) - (e.lastSequence : Int) - 1) % 16).toNat) }

/-- A new entry (R25). -/
def newEntry (a : Nat) (c : StatusContent) : PeerEntry := (PeerEntry.blank a).store c

/-- The table after a STATUS that passes R24 is delivered from address a (R25 to R27), where it is stored. -/
def peersAfterStatus (peers : List PeerEntry) (a : Nat) (c : StatusContent) : List PeerEntry :=
  match entryAt peers a with
  | none => if peers.length < 31 then insertEntry (newEntry a c) peers else peers
  | some e =>
    if c.first then updateEntry peers a fun e => e.rewrite c
    else if c.sequence = e.lastSequence then peers
    else updateEntry peers a fun e => e.publish c

/-- Whether a STATUS from address a finds no entry and no room (R25). -/
def statusOverflows (peers : List PeerEntry) (a : Nat) : Bool :=
  (entryAt peers a).isNone && decide (31 ≤ peers.length)

/-- A STATUS delivered to the Peer Table (R24 to R27): a phase code of 5, 6 or 7 discards it; a full table raises PEER_OVERFLOW;
and what changes is reported to Fog Guard (R31). -/
def State.deliverStatus (s : State) (f : Frame) : State :=
  match f.readStatus with
  | none => s
  | some c =>
    ((s.setPeers (peersAfterStatus s.peers f.sender.toNat c)).raiseIf (statusOverflows s.peers f.sender.toNat)
      .peerOverflow).reportPeers

/-- A FOG delivered to the Peer Table (R30, R52): FOG_ON sets FOG and FOG_OFF sets ACT in the sender's entry; any other value is
not delivered, and an address with no entry is ignored. -/
def State.deliverFog (s : State) (f : Frame) : State :=
  match f.readFog with
  | none => s
  | some on =>
    (s.setPeers (updateEntry s.peers f.sender.toNat fun e => { e with fog := if on then .fog else .act })).reportPeers

/-- The sender's period P in 10 ms steps (R28). -/
def PeerEntry.periodSteps (e : PeerEntry) : Nat := 25 * (e.period + 1)

/-- One ageing step of an entry: the age and the freshness set against it (R28). -/
def PeerEntry.aged (e : PeerEntry) : PeerEntry :=
  { e with
    age := min 65535 (e.age + 1)
    stale := decide (3 * e.periodSteps < min 65535 (e.age + 1)) }

/-- An entry whose age exceeds 8 × P is LOST (R29). -/
def PeerEntry.lost (e : PeerEntry) : Bool := decide (8 * e.periodSteps < e.age)

/-- The table after an ageing step: every entry aged, the LOST ones removed (R28, R29). -/
def agePeers (peers : List PeerEntry) : List PeerEntry := (peers.map PeerEntry.aged).filter fun e => !e.lost

/-- The ageing step of the node, with its report to Fog Guard (R31). -/
def State.agePeerTable (s : State) : State := (s.setPeers (agePeers s.peers)).reportPeers

/-- AGEING_STEP (R28, R29): the timer runs in LISTEN, RUN and MUTE. -/
def execAgeingStep (s : State) : Answer := takenIf s.operating s s.agePeerTable

/-- Whether the ageing step makes the entry of an address STALE. -/
def becomesStale (peers : List PeerEntry) (a : Nat) : Bool :=
  (entryAt peers a).any (fun e => !e.stale) && (entryAt (agePeers peers) a).any fun e => e.stale

/-- Whether the ageing step removes the entry of an address. -/
def becomesLost (peers : List PeerEntry) (a : Nat) : Bool := (entryAt peers a).isSome && (entryAt (agePeers peers) a).isNone

/-- ENTRY_STALE (R28): the ageing step at which the entry of the address becomes STALE. -/
def execEntryStale (a : Nat) (s : State) : Answer := takenIf (s.operating && becomesStale s.peers a) s s.agePeerTable

/-- ENTRY_LOST (R29): the ageing step at which the entry of the address is removed. -/
def execEntryLost (a : Nat) (s : State) : Answer := takenIf (s.operating && becomesLost s.peers a) s s.agePeerTable

/-- The split counter of an entry at a period expiry (R33). -/
def PeerEntry.splitStep (own : Phase) (e : PeerEntry) : PeerEntry :=
  { e with splitCounter := if !e.stale ∧ e.phase ≠ own then min 3 (e.splitCounter + 1) else 0 }

/-- Whether an entry's split counter advances from 2 to 3 at a period expiry (R33). -/
def splitReaches3 (own : Phase) (e : PeerEntry) : Bool :=
  decide (e.splitCounter = 2) && decide ((e.splitStep own).splitCounter = 3)

/-- The phase-split check (R33). -/
def State.checkSplit (s : State) : State :=
  (s.setPeers (s.peers.map (PeerEntry.splitStep s.light.phase))).raiseTimes .phaseSplit
    (s.peers.filter (splitReaches3 s.light.phase)).length

end Sys2Proof.Machine
end

