-- ==== Sys2Proof/Machine/Light.lean ====
section
/-!
DEFINITION. The Lighting Engine (chapter 7): taking cues and STOP, the pending cue list, received and originated cues,
replays, fades, the caps and the radiant, and the meanings of the four rows about its timers.
-/
namespace Sys2Proof.Machine

/-- The cue number of STOP. -/
def stopCue : Nat := 255

/-- The scene of a cue number: the first cue map entry that holds it; an entry holding 255 is empty (R114). -/
def sceneOf (cfg : Configuration) (number : Nat) : Option Scene :=
  ((List.finRange 64).find? fun n =>
    decide ((cfg.cueMap[n]).cue = number) && decide ((cfg.cueMap[n]).cue ≠ stopCue)).map fun n =>
      cfg.scenes[(cfg.cueMap[n]).scene]

/-- A take starting a channel's fade (R121): from its output level, toward the scene level, at e = 0, over fade × 5 steps. -/
def Fade.begin (f : Fade) (target fade : Nat) : Fade :=
  { f with state := .fading, start := f.output, target := target, step := 0, length := fade * 5 }

/-- The strobe a take hands to a dimmer generator whose channel's scene level is not KEEP (R121, R137, R139). -/
def Dimmer.takeStrobe (d : Dimmer) (sc : Scene) (n : Fin 8) : Dimmer :=
  { d with strobe := if sc.marks[n] then Strobe.begin sc.onWidth sc.offWidth else d.strobe.finish }

/-- The fades and strobes started by a scene; a KEEP channel keeps both (R113, R121). -/
def State.takeScene (s : State) (sc : Scene) (fade : Nat) : State :=
  (s.setLight { s.light with
      fades := mapAt s.light.fades fun n f => match sc.levels[n] with
        | some level => f.begin level fade
        | none => f }).setGens { s.gens with
      dimmers := mapAt s.gens.dimmers fun n d => match sc.levels[n] with
        | some _ => d.takeStrobe sc n
        | none => d }

/-- The last two steps of a take: the current cue record, and in LISTEN the take marker (R121, R122). -/
def State.recordTake (s : State) (c : CueRecord) : State :=
  s.setLight { s.light with
    current := some c
    takeMarker := s.light.takeMarker || decide (s.node.state = .listen) }

/-- The phase set by a cue whose phase code is 0 to 4 (R116). -/
def State.takePhase (s : State) (c : CueRecord) : State := s.setLight { s.light with phase := c.phase.getD s.light.phase }

/-- Taking a cue other than STOP, in the order of R121. -/
def State.takeCue (s : State) (c : CueRecord) : State :=
  let t := s.takePhase c
  let u := match sceneOf t.cfg c.number with
    | some sc => t.takeScene sc c.fade
    | none => t
  u.recordTake c

/-- A fade frozen by STOP: HELD at its output level (R122). -/
def Fade.freeze (f : Fade) : Fade := { f with state := .held, level := f.output }

/-- Taking STOP, in the order of R122. -/
def State.takeStop (s : State) (c : CueRecord) : State :=
  ((s.setLight { s.light with
      pendingCues := [], fades := mapAt s.light.fades fun _ f => f.freeze }).takePhase c).recordTake c

/-- A cue without its wait, as the current cue record keeps it (R121). -/
def recordOfCue (c : Cue) : CueRecord :=
  { origin := c.origin, serial := c.serial, number := c.number, phase := c.phase, fade := c.fade }

/-- A pending cue put after every entry whose remaining wait is less than or equal to its own (R120). -/
def insertPending (x : PendingCue) : List PendingCue → List PendingCue
  | [] => [x]
  | p :: rest => if p.remaining ≤ x.remaining then p :: insertPending x rest else x :: p :: rest

/-- Whether the pending list holds a cue of the same origin and serial (R118 step 3, R120). -/
def pendingHolds (l : List PendingCue) (c : Cue) : Bool :=
  l.any fun p => decide (p.origin = c.origin) && decide (p.serial = c.serial)

/-- A cue offered to the pending cue list (R120): a full list refuses it with CUE_DROPPED, whatever the cue. With room left it enters with
a remaining wait of wait × 5; since the list holds no two cues of the same origin and serial, a duplicate is then ignored as R118
ignores one (DEDUCED, log entry 26). -/
def State.offerPending (s : State) (c : Cue) : State :=
  if 4 ≤ s.light.pendingCues.length then s.raise .cueDropped
  else if pendingHolds s.light.pendingCues c then s
  else
    s.setLight { s.light with
      pendingCues := insertPending
        { origin := c.origin, serial := c.serial, number := c.number, phase := c.phase, fade := c.fade,
          remaining := c.wait * 5 } s.light.pendingCues }

/-- A cue acting by its number and wait (R119, R123). -/
def State.actCue (s : State) (c : Cue) : State :=
  if c.number = stopCue then s.takeStop (recordOfCue c)
  else if c.wait = 0 then s.takeCue (recordOfCue c)
  else s.offerPending c

/-! ### Received cues, replays and RECALL -/

/-- The serial window: whether the cue passes against the origin's last cue serial (R118, step 1). -/
def serialPasses (peers : List PeerEntry) (c : Cue) : Bool :=
  match (entryAt peers c.origin).bind fun e => e.lastCueSerial with
  | some l =>
    decide (1 ≤ ((c.serial : Int) - (l : Int)) % 256) && decide (((c.serial : Int) - (l : Int)) % 256 ≤ 127)
  | none => true

/-- A CUE without the replay mark that passes R117, judged by R118 and acting by R119. -/
def State.acceptCue (s : State) (c : Cue) : State :=
  if serialPasses s.peers c then
    let t := s.setPeers (updateEntry s.peers c.origin fun e => { e with lastCueSerial := some c.serial })
    if pendingHolds t.light.pendingCues c then t else t.actCue c
  else s

/-- A replay CUE that passes R117 (R129): the own waiting replay is withdrawn, and in LISTEN with the take marker clear the replay
is taken, whatever its wait. -/
def State.acceptReplay (s : State) (c : Cue) : State :=
  let t := s.setLine { s.line with queue := { s.line.queue with replayPlace := none } }
  if t.node.state = .listen ∧ t.light.takeMarker = false then
    if c.number = stopCue then t.takeStop (recordOfCue c) else t.takeCue (recordOfCue c)
  else t

/-- A CUE delivered to the Lighting Engine: the checks of R117 first. -/
def State.deliverCue (s : State) (f : Frame) : State :=
  match f.readCue with
  | none => s
  | some c => if f.replayMark then s.acceptReplay c else s.acceptCue c

/-- The replay of a current cue: wait 0 (R128). -/
def CueRecord.toReplay (c : CueRecord) : Cue :=
  { origin := c.origin, serial := c.serial, number := c.number, phase := c.phase, wait := 0, fade := c.fade }

/-- A RECALL delivered to the Lighting Engine: answered in RUN by a node that holds a current cue record (R128). -/
def State.deliverRecall (s : State) : State :=
  match s.node.state, s.light.current with
  | .run, some c => s.offer (.replay c.toReplay)
  | _, _ => s

/-- Cue input n originating its cue (R123): serial, local action, and in LISTEN and RUN the frame. -/
def State.originate (s : State) (n : Fin 2) : State :=
  let serial := (s.line.cueSerial + 1) % 256
  let i := s.cfg.cueInputs[n]
  let c : Cue :=
    { origin := s.cfg.node.address, serial := serial, number := i.number, phase := i.phase, wait := i.wait, fade := i.fade }
  ((s.setLine { s.line with cueSerial := serial }).actCue c).offer (.cue c)

/-! ### Fades, caps and radiant -/

/-- The fade part of a fade step (R124, step 1). -/
def Fade.advance (f : Fade) : Fade :=
  if f.state = .fading then
    if f.length ≤ f.step + 1 then { f with step := f.step + 1, level := f.target, state := .held }
    else
      { f with
        step := f.step + 1
        level := ((f.start : Int) +
          truncDiv (((f.target : Int) - (f.start : Int)) * ((f.step : Int) + 1)) (f.length : Int)).toNat }
  else f

/-- A channel's fade step: the fade advances and is capped (R124, steps 1 and 2). -/
def Fade.stepped (f : Fade) (cap : Nat) : Fade := { f.advance with output := min f.advance.level cap }

/-- The pending list after a fade step's count: every remaining wait reduced by 1, the expired ones left out (R120). -/
def pendingAfter (l : List PendingCue) : List PendingCue :=
  (l.map fun p => { p with remaining := p.remaining - 1 }).filter fun p => decide (p.remaining ≠ 0)

/-- The pending cues that expire at a fade step, in list order (R120). -/
def pendingExpired (l : List PendingCue) : List PendingCue := l.filter fun p => decide (p.remaining - 1 = 0)

/-- A pending cue as it is taken (R121). -/
def PendingCue.toRecord (p : PendingCue) : CueRecord :=
  { origin := p.origin, serial := p.serial, number := p.number, phase := p.phase, fade := p.fade }

/-- The pending list served at a fade step (R120). -/
def State.servePending (s : State) : State :=
  (pendingExpired s.light.pendingCues).foldl (fun (t : State) p => t.takeCue p.toRecord)
    (s.setLight { s.light with pendingCues := pendingAfter s.light.pendingCues })

/-- The own radiant contribution of the fades' output levels (R125). -/
def radiantOf (cfg : Configuration) (fades : Vector Fade 8) : Nat :=
  ((List.finRange 8).map fun n => (fades[n]).output * cfg.coefficients[n] / 1000).sum

/-- The channels of a fade step (R124): each fade advances under the slewed cap and its output level is written to its dimmer
generator; then the own radiant is formed (R125). -/
def State.stepFades (s : State) : State :=
  let fades := mapAt s.light.fades fun _ f => f.stepped s.light.slewedCap
  (s.setLight { s.light with fades := fades, radiant := radiantOf s.cfg fades }).setGens { s.gens with
    dimmers := mapAt s.gens.dimmers fun n d => { d with gen := d.gen.write (fades[n]).output } }

/-- The fade step (R124): the pending list is served first. -/
def State.fadeStep (s : State) : State := s.servePending.stepFades

/-- FADE_STEP (R120, R124, R125): the timer runs in LISTEN, RUN and MUTE. -/
def execFadeStep (s : State) : Answer := takenIf s.operating s s.fadeStep

/-- PENDING_CUE_EXPIRY (R120): the fade step at which a pending cue expires. -/
def execPendingCueExpiry (s : State) : Answer :=
  takenIf (s.operating && !(pendingExpired s.light.pendingCues).isEmpty) s s.fadeStep

/-- FADE_END (R124): the fade step at which channel n's fade ends. -/
def execFadeEnd (n : Fin 8) (s : State) : Answer :=
  takenIf (s.operating && decide ((s.servePending.light.fades[n]).state = .fading) &&
    decide ((s.fadeStep.light.fades[n]).state = .held)) s s.fadeStep

/-- The caps a cap step counts: the own cap on a node with ice, and the cap of every entry that has one, FRESH or STALE (R126). -/
def countedCaps (s : State) : List Nat :=
  (if hasIce s.cfg then [s.ice.cap] else []) ++ s.peers.filterMap fun e => e.cap

/-- The target cap: the smallest counted cap raised to the light floor, or 1000 with none (R126). -/
def targetCapOf (floor : Nat) : List Nat → Nat
  | [] => 1000
  | c :: rest => max floor (minOf c rest)

/-- The slewed cap moved toward the target: down by at most 20, up by at most 5 (R127). -/
def slew (cap target : Nat) : Nat := if target < cap then max target (cap - 20) else min target (cap + 5)

/-- The cap step (R126, R127). -/
def State.capStep (s : State) : State :=
  let target := targetCapOf s.cfg.node.lightFloor (countedCaps s)
  s.setLight { s.light with targetCap := target, slewedCap := slew s.light.slewedCap target }

/-- CAP_STEP (R126, R127): the timer runs in LISTEN, RUN and MUTE. -/
def execCapStep (s : State) : Answer := takenIf s.operating s s.capStep

end Sys2Proof.Machine
end

