-- ==== Sys2Proof/Machine/Heat.lean ====
section
/-!
DEFINITION. The Heat Share Engine (chapter 6): the offer, the demands, the share evaluation, the valve duties and the backup
stages, and the meanings of the three rows about its timers.
-/
namespace Sys2Proof.Machine

/-! ### The offer -/

/-- The raw offer: floor(q × dT × h / 10000), or 0 where the drop is 0 or below (R94). -/
def rawOfferOf (flow drop : Int) (capacity : Nat) : Nat :=
  if drop ≤ 0 then 0 else (floorDiv (flow * drop * (capacity : Int)) 10000).toNat

/-- The offer: the smaller of 6000 and floor(raw × f / 1000) (R94). -/
def offerOf (raw fraction : Nat) : Nat := min 6000 (raw * fraction / 1000)

/-- The offer part of an evaluation on a node with a source (R94, R95): a FAILED input gives an offer of 0 with doubt, and the raw
offer last computed then stands. -/
def HeatLive.sourceStep (h : HeatLive) (cfg : SourceConfig) (supply ret flow : Reading) : HeatLive :=
  let drop := supply.value - ret.value
  let read : HeatLive := { h with flow := flow.value, drop := drop }
  if supply.quality = .failed ∨ ret.quality = .failed ∨ flow.quality = .failed then
    { read with offer := 0, offerDoubt := true }
  else
    let raw := rawOfferOf flow.value drop cfg.capacity
    { read with
      rawOffer := raw
      offer := offerOf raw cfg.fraction
      offerDoubt := decide (supply.quality = .doubt) || decide (ret.quality = .doubt) || decide (flow.quality = .doubt) }

/-- Step 1 of the evaluation: a node without a source offers 0 without doubt (R90, R94, R95). -/
def State.computeOffer (s : State) : State :=
  match readBinding s .sourceSupplyT, readBinding s .sourceReturnT, readBinding s .sourceFlow with
  | some supply, some ret, some flow => s.setHeat (s.heat.sourceStep s.cfg.source supply ret flow)
  | _, _, _ => s.setHeat { s.heat with offer := 0, offerDoubt := false }

/-! ### Demands -/

/-- A STAND loop's demand under the curtail (R98); other classes' as it is. -/
def curtailed (cls : HeatClass) (curtail demand : Nat) : Nat :=
  match cls with
  | .stand => demand * curtail / 1000
  | _ => demand

/-- The shortfall e (R96). -/
def shortfallOf (cfg : LoopConfig) (phase : Phase) (t : Int) : Int := clamp 0 (cfg.band : Int) (cfg.setpoint phase - t)

/-- The demand of a loop whose temperature reads GOOD or DOUBT (R96, R98). -/
def LoopLive.computeDemand (l : LoopLive) (cfg : LoopConfig) (cls : HeatClass) (phase : Phase) (curtail : Nat)
    (r : Reading) : LoopLive :=
  let e := shortfallOf cfg phase r.value
  { l with
    temperature := r.value
    shortfall := e
    demand := curtailed cls curtail (floorDiv ((cfg.design : Int) * e) (cfg.band : Int)).toNat
    kind := if r.quality = .good then .computed else .computedDoubt
    failureTimer := none }

/-- A running failure timer after one more status period; it stops at 60 s (R99). -/
def timerAfter (period t : Nat) : Nat := min 60000 (t + period)

/-- The demand of a loop whose temperature reads FAILED: held until the failure timer reaches 60 s, then the fallback (R99). -/
def LoopLive.failDemand (l : LoopLive) (cfg : LoopConfig) (cls : HeatClass) (curtail period : Nat) (r : Reading) :
    LoopLive :=
  match l.failureTimer with
  | none =>
    { l with temperature := r.value, failureTimer := some 0, held := l.demand, kind := .held }
  | some t =>
    let t' := timerAfter period t
    if t' < 60000 then
      { l with temperature := r.value, failureTimer := some t', demand := l.held, kind := .held }
    else
      { l with
        temperature := r.value
        failureTimer := some t'
        demand := curtailed cls curtail (min cfg.fallback cfg.design)
        kind := .fallback }

/-- The demand of a DRY loop (R97). -/
def LoopLive.dryDemand (l : LoopLive) (cfg : LoopConfig) (regen : Nat) : LoopLive :=
  { l with demand := cfg.design * regen / 1000, kind := .computed }

/-- One loop's part of step 2 (R96 to R100); an unconfigured loop computes no demand. -/
def LoopLive.demandStep (l : LoopLive) (cfg : LoopConfig) (phase : Phase) (regen curtail period : Nat)
    (temperature : Option Reading) : LoopLive :=
  match cfg.cls, temperature with
  | none, _ => l
  | some .dry, _ => l.dryDemand cfg regen
  | some _, none => l
  | some cls, some r =>
    if r.quality = .failed then l.failDemand cfg cls curtail period r
    else l.computeDemand cfg cls phase curtail r

/-- Step 2 of the evaluation. -/
def State.computeDemands (s : State) : State :=
  s.setHeat { s.heat with
    loops := mapAt s.heat.loops fun n l =>
      l.demandStep s.cfg.loops[n] s.light.phase s.fog.regen s.fog.curtail (periodMs s.cfg) (readBinding s (.loopT n)) }

/-- The doubt of a demand by its kind (R100). -/
def kindDoubt : DemandKind → Bool
  | .computed => false
  | _ => true

/-- The demand record of loop n, if it is configured (R100). -/
def demandRecord (s : State) (n : Fin 4) : Option Demand :=
  (s.cfg.loops[n]).cls.map fun cls =>
    { cls := cls, loop := n, amount := (s.heat.loops[n]).demand, doubt := kindDoubt (s.heat.loops[n]).kind }

/-- The demand records of the node's own configured loops, in ascending loop index (R21, R102). -/
def ownDemands (s : State) : List Demand := (List.finRange 4).filterMap (demandRecord s)

/-! ### The share evaluation -/

/-- An offer as a view counts it: half when doubtful (R101). -/
def countedOffer (offer : Nat) (doubt : Bool) : Nat := if doubt then offer / 2 else offer

/-- The view offer O: the own offer and those of the FRESH entries (R101). -/
def viewOffer (s : State) : Nat :=
  countedOffer s.heat.offer s.heat.offerDoubt +
    (s.peers.map fun e => if e.stale then 0 else countedOffer e.offer e.offerDoubt).sum

/-- The view records: the own demands and those of every entry, FRESH or STALE (R102). -/
def viewRecords (s : State) : List Demand := ownDemands s ++ (s.peers.map fun e => e.demands).flatten

/-- Tc: the sum of the demands of class c (R103). -/
def classTotal (records : List Demand) (c : HeatClass) : Nat :=
  ((records.filter fun d => decide (d.cls = c)).map fun d => d.amount).sum

/-- The remainder after a class whose total is T, with R before it (R103). -/
def remainderAfter (r t : Nat) : Nat := if t ≤ r then r - t else 0

/-- The remainder R as a class meets it: after the classes served before it, from O (R103). -/
def remainderBefore (offer : Nat) (records : List Demand) : HeatClass → Nat
  | .heave => offer
  | .dry => remainderAfter offer (classTotal records .heave)
  | .stand =>
    remainderAfter (remainderAfter offer (classTotal records .heave)) (classTotal records .dry)
  | .melt =>
    remainderAfter
      (remainderAfter (remainderAfter offer (classTotal records .heave)) (classTotal records .dry))
      (classTotal records .stand)

/-- The grant of one record: its demand in full where its class fits the remainder, else floor(d × R / Tc) (R103). -/
def grantOf (offer : Nat) (records : List Demand) (d : Demand) : Nat :=
  let r := remainderBefore offer records d.cls
  let t := classTotal records d.cls
  if t ≤ r then d.amount else d.amount * r / t

/-- Whether the cut falls in class c: the first class whose total exceeds the remainder it meets (R103). -/
def cutClass (offer : Nat) (records : List Demand) : Option HeatClass :=
  [HeatClass.heave, .dry, .stand, .melt].find? fun c =>
    decide (remainderBefore offer records c < classTotal records c)

/-- The summary of a share evaluation (R111). -/
def summaryOf (offer : Nat) (records : List Demand) : ShareSummary :=
  { viewOffer := offer
    records := records.length
    t1 := classTotal records .heave
    t2 := classTotal records .dry
    t3 := classTotal records .stand
    t4 := classTotal records .melt
    cut := cutClass offer records
    remainder := remainderAfter (remainderBefore offer records .melt) (classTotal records .melt) }

/-- The own grant of loop n by an evaluation: 0 for an unconfigured loop, and 0 outside RUN (R105). -/
def ownGrant (s : State) (n : Fin 4) : Nat :=
  match demandRecord s n with
  | some d => if s.node.state = .run then grantOf (viewOffer s) (viewRecords s) d else 0
  | none => 0

/-- Steps 3 to 5 of the evaluation (R101 to R105). -/
def State.computeGrants (s : State) : State :=
  s.setHeat { s.heat with
    summary := summaryOf (viewOffer s) (viewRecords s)
    loops := mapAt s.heat.loops fun n l => { l with grant := ownGrant s n } }

/-- The valve duty of a grant (R106). -/
def dutyOf (design grant : Nat) : Nat := if design = 0 then 0 else grant * 1000 / design

/-- Loop n's part of step 6: a configured loop's duty is written to its valve generator (R106). -/
def State.writeDuty (s : State) (n : Fin 4) : State :=
  if (s.cfg.loops[n]).cls.isSome then
    let duty := dutyOf (s.cfg.loops[n]).design (s.heat.loops[n]).grant
    (s.setHeat { s.heat with loops := setAt s.heat.loops n { s.heat.loops[n] with duty := duty } }).writeValve
      (s.cfg.loops[n]).valve duty
  else s

/-- Step 6 of the evaluation, in ascending loop index (R106). -/
def State.writeDuties (s : State) : State := (List.finRange 4).foldl State.writeDuty s

/-- The share evaluation of step 1 of a period expiry, its six steps in order (R93). -/
def State.evaluateShare (s : State) : State := s.computeOffer.computeDemands.computeGrants.writeDuties

/-! ### Backup stages -/

/-- The deficit of a loop (R107). -/
def LoopLive.deficitNow (l : LoopLive) : Nat := l.demand - l.grant

/-- One judgement of a loop at a backup expiry (R107 to R109): a configured loop with a threshold above 0 is judged; with a threshold
of 0 its condition is OFF and its hold count stopped; an unconfigured loop keeps no backup stage. A loop that is not judged forms no
deficit, and the deficit that SNAP 0 shows of it stays as it was, 0 from power-on (DEDUCED, log entry 34). -/
def LoopLive.judgeBackup (l : LoopLive) (cfg : LoopConfig) : LoopLive :=
  if cfg.cls.isNone then l
  else if cfg.threshold = 0 then { l with backup := false, holdCount := none }
  else
    let deficit := l.deficitNow
    if l.backup then
      { l with deficit := deficit, backup := !decide (deficit < cfg.threshold / 2), holdCount := none }
    else if deficit < cfg.threshold then { l with deficit := deficit, holdCount := none }
    else
      let count := match l.holdCount with
        | none => 0
        | some c => c + 1
      if cfg.hold ≤ count then { l with deficit := deficit, backup := true, holdCount := none }
      else { l with deficit := deficit, holdCount := some count }

/-- Whether a judgement turns loop n's backup condition ON (R108). -/
def backupTurnsOn (s : State) (n : Fin 4) : Bool :=
  !(s.heat.loops[n]).backup && ((s.heat.loops[n]).judgeBackup s.cfg.loops[n]).backup

/-- The backup expiry (R107): every loop judged, BACKUP_ON raised at each turning on (R108). -/
def State.judgeBackups (s : State) : State :=
  (s.setHeat { s.heat with loops := mapAt s.heat.loops fun n l => l.judgeBackup s.cfg.loops[n] }).raiseTimes .backupOn
    ((List.finRange 4).filter (backupTurnsOn s)).length

/-- BACKUP_EXPIRY (R107 to R109): the timer runs in LISTEN, RUN and MUTE. -/
def execBackupExpiry (s : State) : Answer := takenIf s.operating s s.judgeBackups

/-- BACKUP_ON (R108): the backup expiry at which loop n's backup condition turns ON. -/
def execBackupOn (n : Fin 4) (s : State) : Answer := takenIf (s.operating && backupTurnsOn s n) s s.judgeBackups

/-- A running failure timer at 60 s (R99). -/
def LoopLive.timerRunsOut (l : LoopLive) : LoopLive := { l with failureTimer := some 60000 }

/-- LOOP_FALLBACK (R99): loop n's running failure timer reaches 60 s, so that its demand is the fallback demand from the next
expiry that reads FAILED. -/
def execLoopFallback (n : Fin 4) (s : State) : Answer :=
  takenIf (s.operating && ((s.heat.loops[n]).failureTimer.any fun t => decide (t < 60000))) s
    (s.setHeat { s.heat with loops := setAt s.heat.loops n (s.heat.loops[n]).timerRunsOut })

end Sys2Proof.Machine
end

