-- ==== Sys2Proof/Machine/Status.lean ====
section
/-!
DEFINITION. The Status Composer (chapter 2, sections 2.1 and 2.2): the period expiry in its three steps, composing the STATUS,
and the meanings of the three rows about it.
-/
namespace Sys2Proof.Machine

/-- The STATUS as composed with sequence q (R21, R22): every field read from its owner at this moment. -/
def composedStatus (s : State) (q : Nat) : StatusContent :=
  { sequence := q
    phase := s.light.phase
    fog := s.fog.own
    flood := s.ice.flood
    degraded := s.line.degraded
    first := s.comp.first
    period := s.cfg.node.period
    offer := s.heat.offer
    offerDoubt := s.heat.offerDoubt
    cap := if hasIce s.cfg then some s.ice.cap else none
    radiant := if publishesRadiant s.cfg then some s.light.radiant else none
    demands := ownDemands s }

/-- Step 3 of R17 in RUN: the sequence counter advances (R19) and the STATUS is offered to the queue. -/
def State.compose (s : State) : State :=
  let q := (s.line.ownSequence + 1) % 16
  (s.setLine { s.line with ownSequence := q }).offer (.status (composedStatus s q))

/-- The entry into RUN (R18, R20): the FIRST marker is set. -/
def State.enterRun (s : State) : State := (s.setNodeState .run).setComp { s.comp with first := true }

/-- The expiry counted in LISTEN, up to 2 (R18). -/
def State.countExpiry (s : State) : State := s.setComp { s.comp with expiryCount := min 2 (s.comp.expiryCount + 1) }

/-- What follows steps 1 and 2 of a period expiry: in RUN the STATUS is composed; in LISTEN the expiry is counted, and at the second
one the node enters RUN and composes; in MUTE nothing (R17, R18). -/
def State.finishExpiry (s : State) : State :=
  match s.node.state with
  | .run => s.compose
  | .listen =>
    if s.countExpiry.comp.expiryCount = 2 then s.countExpiry.enterRun.compose else s.countExpiry
  | _ => s

/-- The period expiry (R17): the share evaluation, the phase-split check, and what follows them. The whole expiry is one command, so no
cue is taken between two of its steps, where R17 says what a take between steps 2 and 3 would do (DESIGN CHOICE, log entry 31). -/
def State.expirePeriod (s : State) : State := s.evaluateShare.checkSplit.finishExpiry

/-- STATUS_PERIOD_EXPIRY (R17, R18): the timer runs in LISTEN, RUN and MUTE (R16). -/
def execStatusPeriodExpiry (s : State) : Answer := takenIf s.operating s s.expirePeriod

/-- PHASE_SPLIT (R33): the period expiry at which the split counter of the entry at address a reaches 3. -/
def execPhaseSplit (a : Nat) (s : State) : Answer :=
  takenIf (s.operating && (entryAt s.peers a).any (splitReaches3 s.light.phase)) s s.expirePeriod

/-- ENTER_RUN (R18): the period expiry in LISTEN that brings the count to 2. -/
def execEnterRun (s : State) : Answer :=
  takenIf (decide (s.node.state = .listen) && decide (1 ≤ s.comp.expiryCount)) s s.expirePeriod

end Sys2Proof.Machine
end

