-- ==== Sys2Proof/Machine/Line.lean ====
section
/-!
DEFINITION. The Line Interface (chapter 3): slot access, attempts and their outcomes, reception, the stuck-line watch and the
clash, and the meanings of the rows about the line.
-/
namespace Sys2Proof.Machine

/-- The state with the line seen otherwise. -/
def State.setAccess (s : State) (a : Access) : State := s.setLine { s.line with access := a }

/-! ### Slots and attempts -/

/-- The slot of a frame at attempt k from address a (R40). -/
def slotOf (classU : Bool) (a k : Nat) : Nat :=
  if classU then a / 2 ^ (k % 6) % 2
  else
    let g := if k % 2 = 0 then a % 8 else a / 8
    2 + (g ^^^ (k / 2 % 8))

/-- The slot now starting: slots of a cycle are numbered 0 to 9 and repeat (R39). -/
def slotNumber (slots : Nat) : Nat := slots % 10

/-- The bit time after the release at which the slot start that follows `slots` others falls (R39): slot s of cycle m begins
12 + 80 × m + 8 × s bit times after it. -/
def slotBitTime (slots : Nat) : Nat := 12 + 80 * (slots / 10) + 8 * (slots % 10)

/-- The frame as an attempt sends it: a STATUS has its fog field written from Fog Guard's own state (R49). -/
def atAttempt (own : FogLevel) : TxFrame → TxFrame
  | .status c => .status { c with fog := own }
  | t => t

/-- An attempt of the head begins (R41): the head moves into the stage (R48), a STATUS has its fog field written (R49), the check
word is formed (R38), and the first lead is driven, which ends the slot count (R39). -/
def State.beginAttempt (s : State) (x : Queued) : State :=
  let t := atAttempt s.fog.own x.frame
  s.setLine { s.line with
    queue := s.line.queue.withoutHead
    stage := some { queued := { x with frame := t }, wire := t.toFrame s.cfg.node.address }
    access := .sending }

/-- Whether the head's slot is the slot now starting (R41). -/
def headSlotNow (s : State) (slots : Nat) (x : Queued) : Bool :=
  decide (slotOf x.frame.classU s.cfg.node.address x.attempt = slotNumber slots)

/-- A slot start on an idle line (R41): with transmission allowed, a head whose slot this is begins its attempt; otherwise nothing is
sent in this slot. -/
def State.startSlot (s : State) (slots : Nat) : State :=
  match s.line.queue.head with
  | some x =>
    if mayTransmitIn s.node.state && headSlotNow s slots x then s.beginAttempt x else s.setAccess (.idle (slots + 1))
  | none => s.setAccess (.idle (slots + 1))

/-- SLOT_START (R39, R41): the next slot of the count starts, where the line is idle and reception is on. -/
def execSlotStart (s : State) : Answer :=
  match s.line.access with
  | .idle slots => takenIf s.operating s (s.startSlot slots)
  | _ => .next s

/-- The cause of a dropped frame by its kind (R45): none for a RECALL or a replay. -/
def State.raiseDrop (s : State) : TxFrame → State
  | .cue _ => s.raise .cueDropped
  | .status _ => s.raise .frameDropped
  | .fog _ => s.raise .frameDropped
  | .recall => s
  | .replay _ => s

/-- The staged frame after a failed attempt: returned with its attempt number raised by 1, or dropped where that would be 16 (R42, R43,
R45). -/
def State.failAttempt (s : State) (st : Staged) : State :=
  if 16 ≤ st.queued.attempt + 1 then (s.setLine { s.line with stage := none }).raiseDrop st.queued.frame
  else
    s.setLine { s.line with
      stage := none
      queue := s.line.queue.giveBack { st.queued with attempt := st.queued.attempt + 1 } }

/-- The frame of the attempt under way (R48). -/
def attemptUnderWay (s : State) : Option Staged :=
  match s.line.access with
  | .sending => s.line.stage
  | _ => none

/-- A collision (R42): the score is left, and the frame under way goes on as an ordinary reception. -/
def State.collide (s : State) (st : Staged) : State := (s.failAttempt st).setAccess .receiving

/-- A disturbance (R43): the score rises by 8, and the rest of the transmission is not delivered. -/
def State.disturb (s : State) (st : Staged) : State := (s.scoreUp.failAttempt st).setAccess .disturbed

/-- COLLISION (R42, R45). -/
def execCollision (s : State) : Answer :=
  match attemptUnderWay s with
  | some st => .next (s.collide st)
  | none => .next s

/-- DISTURBANCE (R43, R45). -/
def execDisturbance (s : State) : Answer :=
  match attemptUnderWay s with
  | some st => .next (s.disturb st)
  | none => .next s

/-- FRAME_DROP (R45): the failure of an attempt at number 15. -/
def execFrameDrop (how : AttemptFailure) (s : State) : Answer :=
  match attemptUnderWay s with
  | some st =>
    takenIf (decide (15 ≤ st.queued.attempt)) s
      (match how with
        | .collision => s.collide st
        | .disturbance => s.disturb st)
  | none => .next s

/-- A whole send (R44): the frame leaves the node, the score falls by 1, and a STATUS carrying FIRST clears the FIRST marker (R20). -/
def State.sendWhole (s : State) (st : Staged) : State :=
  let t := (s.setLine { s.line with stage := none, access := .closed }).scoreDown
  if st.queued.frame.carriesFirst then t.setComp { t.comp with first := false } else t

/-- WHOLE_SEND (R44). -/
def execWholeSend (s : State) : Answer :=
  match attemptUnderWay s with
  | some st => .next (s.sendWhole st)
  | none => .next s

/-- RELEASE (R36): the first empty bit time after leads; the slot count begins from it (R39). The node's own attempt gives a lead in
every bit time (R35), so no release falls within it. -/
def execRelease (s : State) : Answer :=
  takenIf (s.operating && decide (s.line.access ≠ .sending)) s (s.setAccess (.idle 0))

/-- Whether the line is idle: a release was observed and no lead since (R36). -/
def lineIdle (s : State) : Bool :=
  match s.line.access with
  | .idle _ => true
  | _ => false

/-- DEFER (R39, R41): another station's lead ends the slot count; the waiting frames keep their attempt numbers. -/
def execDefer (s : State) : Answer := takenIf (s.operating && lineIdle s) s (s.setAccess .receiving)

/-! ### Reception -/

/-- Whether a frame can be received as an ordinary reception: from the first lead after a release to its end (R50). -/
def canReceive (s : State) : Bool :=
  s.operating &&
    match s.line.access with
    | .idle _ => true
    | .receiving => true
    | _ => false

/-- Whether the rest of a disturbed own transmission is being read (R43). -/
def readsDisturbed (s : State) : Bool := s.operating && decide (s.line.access = .disturbed)

/-- Whether a frame bears the node's own address. -/
def bearsOwnAddress (s : State) (f : Frame) : Bool := decide (f.sender.toNat = s.cfg.node.address)

/-- An address clash (R55): the cause is raised; from LISTEN or RUN the node enters a clash MUTE; a MUTE of either kind is a clash MUTE
after it. -/
def State.clash (s : State) : State :=
  match s.node.state with
  | .mute _ => (s.raise .addressClash).setNodeState (.mute .clash)
  | _ => (s.raise .addressClash).enterMute .clash

/-- A valid frame delivered by its kind (R52). -/
def State.deliver (s : State) (f : Frame) : State :=
  match f.kind with
  | .status => s.deliverStatus f
  | .fog => s.deliverFog f
  | .cue => s.deliverCue f
  | .recall => s.deliverRecall

/-- A valid frame that is not an echo completes (R52, R53, R55): the score falls by 1; the own address is a clash, any other is
delivered. The next reception begins after the next release (R36). -/
def State.receiveValid (s : State) (f : Frame) : State :=
  let t := s.scoreDown.setAccess .closed
  if bearsOwnAddress s f then t.clash else t.deliver f

/-- Whether a valid frame of this kind completes here as an ordinary reception; after a disturbance only a frame bearing the own address
can (R43). -/
def receivesKind (s : State) (f : Frame) (k : FrameKind) : Bool :=
  f.valid && decide (f.kind = k) && (canReceive s || (readsDisturbed s && bearsOwnAddress s f))

/-- STATUS_RECEIVED (R24 to R27). -/
def execStatusReceived (f : Frame) (s : State) : Answer := takenIf (receivesKind s f .status) s (s.receiveValid f)

/-- FOG_RECEIVED (R30). -/
def execFogReceived (f : Frame) (s : State) : Answer := takenIf (receivesKind s f .fog) s (s.receiveValid f)

/-- CUE_RECEIVED (R117 to R120). -/
def execCueReceived (f : Frame) (s : State) : Answer :=
  takenIf (receivesKind s f .cue && !f.replayMark) s (s.receiveValid f)

/-- REPLAY_RECEIVED (R117, R129). -/
def execReplayReceived (f : Frame) (s : State) : Answer :=
  takenIf (receivesKind s f .cue && f.replayMark) s (s.receiveValid f)

/-- RECALL_RECEIVED (R128). -/
def execRecallReceived (f : Frame) (s : State) : Answer := takenIf (receivesKind s f .recall) s (s.receiveValid f)

/-- VALID_FRAME_OWN_ADDRESS (R43, R55). -/
def execValidFrameOwnAddress (f : Frame) (s : State) : Answer :=
  takenIf (f.valid && bearsOwnAddress s f && (canReceive s || readsDisturbed s)) s (s.receiveValid f)

/-- Whether a reception is an invalid frame: a complete frame that is not valid (R51), or a reception cut short after the 18 bits of the
issue window and before the shortest possible end of what it began (R50). -/
def badReception : BadReception → Bool
  | .complete f => f.complete && !f.valid
  | .cutShort bits => decide (18 ≤ bits) && decide (bits < 304)

/-- INVALID_FRAME (R50, R51, R53): scored, but not where it ends the reception of a disturbed own transmission (R43). -/
def execInvalidFrame (r : BadReception) (s : State) : Answer :=
  if canReceive s then takenIf (badReception r) s (s.scoreUp.setAccess .closed)
  else takenIf (badReception r && readsDisturbed s) s (s.setAccess .closed)

/-- Whether a reception is a fragment: a bad start mark, or cut short inside the 18 bits of the issue window (R50). -/
def fragmentForm : FragmentForm → Bool
  | .badStartMark => true
  | .cutShort bits => decide (1 ≤ bits) && decide (bits < 18)

/-- FRAGMENT (R50): ignored and not scored; the next release is awaited. -/
def execFragment (r : FragmentForm) (s : State) : Answer :=
  takenIf (canReceive s && fragmentForm r) s (s.setAccess .closed)

/-! ### Stuck line -/

/-- A stuck line (R54): LINE_STUCK is raised; from LISTEN or RUN the node enters a stuck-line MUTE; the line is active until the next
release. -/
def State.lineStuck (s : State) : State :=
  let t := match s.node.state with
    | .mute _ => s.raise .lineStuck
    | _ => (s.raise .lineStuck).enterMute .stuck
  t.setAccess .closed

/-- STUCK_LINE (R54): the watch runs while reception is on. -/
def execStuckLine (s : State) : Answer := takenIf s.operating s s.lineStuck

/-- Whether the quiet timer runs: in a stuck-line MUTE, from each release until the next lead (R54). -/
def quietTimerRuns (s : State) : Bool := decide (s.node.state = .mute .stuck) && lineIdle s

/-- The return from a stuck-line MUTE to LISTEN (R54, R84, R153): what every entry into LISTEN does, and FOG_ON is offered where the own
fog state is FOG. -/
def State.endStuckLine (s : State) : State :=
  if s.fog.own = .fog then s.enterListen.offer (.fog true) else s.enterListen

/-- STUCK_LINE_END (R54): the quiet timer reaches 1 s. -/
def execStuckLineEnd (s : State) : Answer := takenIf (quietTimerRuns s) s s.endStuckLine

end Sys2Proof.Machine
end

