-- ==== Sys2Proof/Machine/Pins.lean ====
section
/-!
DEFINITION. Cue inputs (chapter 9, section 9.4): arming, debouncing and accepted edges, and the meanings of the three rows about
them.
-/
namespace Sys2Proof.Machine

/-- A sample while the input is not armed (R148): the run of equal samples, and arming at 20. -/
def CueInput.armStep (c : CueInput) (level : Bool) : CueInput :=
  let run := if c.lastLevel = some level then c.armingRun + 1 else 1
  if 20 ≤ run then
    { c with armed := true, armingRun := run, lastLevel := some level, debounced := some level, changeRun := 0 }
  else { c with armingRun := run, lastLevel := some level }

/-- A sample once armed (R149): compared with the debounced level, a new level accepted at the eighth in a row. -/
def CueInput.changeStep (c : CueInput) (level : Bool) : CueInput :=
  if c.debounced = some level then { c with lastLevel := some level, changeRun := 0 }
  else if 8 ≤ c.changeRun + 1 then { c with lastLevel := some level, debounced := some level, changeRun := 0 }
  else { c with lastLevel := some level, changeRun := c.changeRun + 1 }

/-- One sample of a cue input at a logical level (R148, R149). -/
def CueInput.sample (c : CueInput) (level : Bool) : CueInput := if c.armed then c.changeStep level else c.armStep level

/-- The logical level a sample of cue input n forms from its pin's raw level (R148), where the input samples. -/
def sampledLevel (s : State) (n : Fin 2) : Option Bool :=
  if (s.pins.cueInputs[n]).sampling then
    (pinOf s.cfg (.cueIn n)).map fun p => underPolarity (s.cfg.pins[p]).polarity (rawLevel s p)
  else none

/-- Cue input n's record after a sample. -/
def sampledInput (s : State) (n : Fin 2) : CueInput :=
  match sampledLevel s n with
  | some level => (s.pins.cueInputs[n]).sample level
  | none => s.pins.cueInputs[n]

/-- Whether a sample arms an input (R148). -/
def armsNow (c c' : CueInput) : Bool := !c.armed && c'.armed

/-- Whether a sample of an armed input is an accepted edge (R149). -/
def edgeNow (c c' : CueInput) : Bool := c.armed && decide (c'.debounced ≠ c.debounced)

/-- Whether an accepted edge rises from logical low to logical high (R149). -/
def risesNow (c c' : CueInput) : Bool := edgeNow c c' && decide (c'.debounced = some true)

/-- The state with what the outside holds at the pins. -/
def State.setBoard (s : State) (b : Board) : State := s.setPins { s.pins with board := b }

/-- The records of both cue inputs after a sample, and the count of free readings advanced. -/
def State.sampleRecords (s : State) : State :=
  (s.setPins { s.pins with cueInputs := Vector.ofFn (sampledInput s) }).setFreeCount (s.freeCount + 1)

/-- Cue input n originates its cue where its record passed through a rising accepted edge since the state before (R149, R123). -/
def State.originateOnRise (s before : State) (n : Fin 2) : State :=
  if risesNow before.pins.cueInputs[n] (sampledInput before n) then s.originate n else s

/-- A sample of the cue inputs (R148, R149): both pins are read at one instant. Where both inputs accept a rising edge at it, input 0
originates its cue before input 1, the order that gives it the lower serial; the manual states none, so it is a DESIGN CHOICE (log
entry 35). -/
def State.sampleInputs (s : State) (b : Board) : State :=
  ((s.setBoard b).sampleRecords.originateOnRise (s.setBoard b) 0).originateOnRise (s.setBoard b) 1

/-- CUE_INPUT_SAMPLE (R148, R149): the sampling timer runs in LISTEN, RUN and MUTE. -/
def execCueInputSample (b : Board) (s : State) : Answer := takenIf s.operating s (s.sampleInputs b)

/-- CUE_INPUT_ARM (R148): the sample at which cue input n arms. -/
def execCueInputArm (n : Fin 2) (b : Board) (s : State) : Answer :=
  takenIf (s.operating && armsNow s.pins.cueInputs[n] (sampledInput (s.setBoard b) n)) s (s.sampleInputs b)

/-- ACCEPTED_EDGE (R149): the sample at which cue input n's debounced level changes. -/
def execAcceptedEdge (n : Fin 2) (b : Board) (s : State) : Answer :=
  takenIf (s.operating && edgeNow s.pins.cueInputs[n] (sampledInput (s.setBoard b) n)) s (s.sampleInputs b)

end Sys2Proof.Machine
end

