-- ==== Sys2Proof/Machine/Node.lean ====
section
/-!
DEFINITION. Node Control (chapter 10): power-on and the reset pin, the checks of START, RESTART, and the meanings of the
three reset rows.
-/
namespace Sys2Proof.Machine

/-! ### Power-on and the reset pin -/

/-- Every block at its power-on values (R154), with the last reset kind. What is outside the part stays: the level its reset pin is
held at, what the outside holds at the pins, the model's count of free readings, and the commands that wait. -/
def State.powerOnValues (s : State) (kind : ResetKind) : State :=
  { State.reset with
    node := { NodeControl.powerOn with lastReset := kind }
    pins := { FieldPins.powerOn with board := s.pins.board }
    resetHeld := s.resetHeld
    freeCount := s.freeCount
    pending := s.pending }

/-- The port waits for PSEL to be seen high where PSEL is low when power has risen or the reset pin is released (R162). -/
def State.waitForSelect (s : State) (psel : SelectLevel) : State := s.setPort { s.port with waitHigh := decide (psel = .low) }

/-- POWER_ON (R154, R162): in every state and in the middle of any operation. -/
def execPowerOn (psel : SelectLevel) (s : State) : Answer := .next ((s.powerOnValues .power).waitForSelect psel)

/-- RESET_PIN_ASSERTION (R154): in every state and in the middle of any operation. -/
def execResetPinAssertion (s : State) : Answer := .next ((s.powerOnValues .pin).setResetHeld true)

/-- RESET_PIN_RELEASE (R154, R162): the node is in UNSET with its power-on values; a pin that is not held is not released. -/
def execResetPinRelease (psel : SelectLevel) (s : State) : Answer :=
  takenIf s.resetHeld s ((s.setResetHeld false).waitForSelect psel)

/-- PSEL_SEEN_HIGH (R162): the port may begin a transaction at the next fall of PSEL. -/
def execPselSeenHigh (s : State) : Answer :=
  takenIf (!s.resetHeld && s.port.waitHigh) s (s.setPort { s.port with waitHigh := false })

/-! ### START -/

/-- A start fault with the index it records (Table 10-2). -/
structure StartCheck where
  fault : StartFault
  index : Nat
deriving DecidableEq, Repr

/-- The kind a binding requires (Table 1-8). -/
def requiredKind : Binding → ChannelKind
  | .bowlAirRh => .humid
  | .sourceFlow => .flow
  | .fogBeam => .beam
  | _ => .temp

/-- Whether a lower-indexed channel already carries channel n's binding (Table 10-2, code 2). -/
def bindingRepeated (cfg : Configuration) (n : Fin 12) : Bool :=
  (cfg.channels[n]).binding.isSome &&
    (List.finRange 12).any fun m => decide (m < n) && decide ((cfg.channels[m]).binding = (cfg.channels[n]).binding)

/-- The three channel cases at channel n, in table order (R2, R155). -/
def channelCheck (cfg : Configuration) (n : Fin 12) : Option StartCheck :=
  match (cfg.channels[n]).binding with
  | none => none
  | some b =>
    if bindingRepeated cfg n then some { fault := .bindingRepeated, index := n.val }
    else if (cfg.channels[n]).kind = .unused then some { fault := .bindingUnused, index := n.val }
    else if (cfg.channels[n]).kind ≠ requiredKind b then some { fault := .bindingKind, index := n.val }
    else none

/-- One or two of the source bindings are present, not all three (R90). -/
def sourcePartial (cfg : Configuration) : Bool :=
  (bound cfg .sourceSupplyT || bound cfg .sourceReturnT || bound cfg .sourceFlow) && !hasSource cfg

/-- Whether a lower-indexed configured loop already names loop n's valve generator (R92). -/
def valveRepeated (cfg : Configuration) (n : Fin 4) : Bool :=
  (List.finRange 4).any fun m =>
    decide (m < n) && (cfg.loops[m]).cls.isSome && decide ((cfg.loops[m]).valve = (cfg.loops[n]).valve)

/-- Whether loop n names a backup pin that does not carry BACKUP n (R92). -/
def backupPinWrong (cfg : Configuration) (n : Fin 4) : Bool :=
  match (cfg.loops[n]).backupPin with
  | some p => decide ((cfg.pins[p]).function ≠ .backup n)
  | none => false

/-- The three loop cases at loop n, in table order; an unconfigured loop is not checked (R92, R155). -/
def loopCheck (cfg : Configuration) (n : Fin 4) : Option StartCheck :=
  match (cfg.loops[n]).cls with
  | none => none
  | some cls =>
    if cls ≠ .dry ∧ !bound cfg (.loopT n) then some { fault := .loopTemperature, index := n.val }
    else if valveRepeated cfg n then some { fault := .valveGenerator, index := n.val }
    else if backupPinWrong cfg n then some { fault := .backupPin, index := n.val }
    else none

/-- Whether a function may appear on at most one pin (R145). -/
def appearsOnce : PinFunction → Bool
  | .outHigh => false
  | .outLow => false
  | .input => false
  | _ => true

/-- A function allowed once found on a second pin (R145). -/
def pinCheck (cfg : Configuration) (n : Fin 24) : Option StartCheck :=
  if appearsOnce (cfg.pins[n]).function &&
      (List.finRange 24).any fun m => decide (m < n) && decide ((cfg.pins[m]).function = (cfg.pins[n]).function) then
    some { fault := .pinFunction, index := n.val }
  else none

/-- A check that records index 0. -/
def plainCheck (fails : Bool) (f : StartFault) : Option StartCheck :=
  if fails then some { fault := f, index := 0 } else none

/-- The checks of START in the order of Table 10-2, stopping at the first failure found (R155). -/
def startChecks (cfg : Configuration) : Option StartCheck :=
  (plainCheck (decide (cfg.node.address = 0)) .address).orElse fun _ =>
  ((List.finRange 12).findSome? (channelCheck cfg)).orElse fun _ =>
  (plainCheck (sourcePartial cfg) .sourceBinding).orElse fun _ =>
  ((List.finRange 4).findSome? (loopCheck cfg)).orElse fun _ =>
  ((List.finRange 24).findSome? (pinCheck cfg)).orElse fun _ =>
  (plainCheck (decide (cfg.ice.upper ≤ cfg.ice.lower)) .iceMargin).orElse fun _ =>
  plainCheck (decide (cfg.fog.watch ≤ cfg.fog.act)) .fogThreshold

/-- The state with another start fault. -/
def State.setStartFault (s : State) (f : StartFault) (i : Nat) : State :=
  s.setNode { s.node with startFault := f, startFaultIndex := i }

/-- START with every check passed (R155): the start fault becomes NONE, the phase the start phase (R116), and the node enters STARTING,
which ends at once where no channel measures its zero (R156). -/
def State.startNode (s : State) : State :=
  let t := (s.setStartFault .noFault 0).enterStarting
  (t.setLight { t.light with phase := t.cfg.node.startPhase }).endStartingIfDone

/-- START taken in UNSET (R155). -/
def State.takeStart (s : State) : State :=
  match startChecks s.cfg with
  | some c => s.setStartFault c.fault c.index
  | none => s.startNode

/-! ### RESTART -/

/-- The entry into STARTING by RESTART (R158): the last reset kind is RESTART, the fades are held at their output levels (R130), every
valve generator is written 0 (R110, R141), and STARTING ends at once where no channel measures its zero. -/
def State.restartNode (s : State) : State :=
  let t := s.enterStarting
  let u := t.setLight { t.light with fades := mapAt t.light.fades fun _ f => f.atRestart }
  ((u.setNode { u.node with lastReset := .restart }).writeZeroValves).endStartingIfDone

/-! ### ACK -/

/-- A cause's entry after an ACK: the flag is cleared where the cause is in the set and its count is unchanged (R169). -/
def CauseEntry.acked (e : CauseEntry) (captured : Option Nat) : CauseEntry :=
  if captured = some e.count then { e with flag := false } else e

/-- An accepted ACK with a captured set (R169): the set becomes absent, the counts stay. -/
def State.acknowledge (s : State) (set : Vector (Option Nat) 12) : State :=
  (s.setNode { s.node with causes := mapAt s.node.causes fun i e => e.acked set[i] }).setPort
    { s.port with capturedSet := none }

/-- The captured cause set of the causes as they stand: each cause whose flag is set, with its count (R164). -/
def captureSet (s : State) : Vector (Option Nat) 12 :=
  Vector.ofFn fun i => if (s.node.causes[i]).flag then some (s.node.causes[i]).count else none

end Sys2Proof.Machine
end

