-- ==== Sys2Proof/Machine/Formats.lean ====
section
/-!
DEFINITION. The windows of the setup port (Table 11-1) and the layouts of section 12.3, both ways: the codes of the
enumerations, the bits a capture shows of each window whose layout is given, and what an exact-length write makes of its
data (R167, R171).
-/
namespace Sys2Proof.Machine

/-! ### Windows -/

/-- The windows of Table 11-1; a PEER window is named by its position (R34). -/
inductive Window where
  | ident
  | node
  | measure (n : Fin 12)
  | source
  | loop (n : Fin 4)
  | ice
  | fog
  | light (n : Fin 8)
  | scene
  | cueMap (n : Fin 16)
  | pins (n : Fin 6)
  | cueIn (n : Fin 2)
  /-- SNAP 0 heat, 1 fog, 2 ice, 3 lighting, 4 pins, 5 line, 6 causes. -/
  | snap (n : Fin 7)
  /-- Position 31 is index 15 of class 14, which has no position. -/
  | peer (position : Fin 32)
  /-- ACTION 0 START, 1 RESTART, 2 ACK, 3 PULSE 0, 4 PULSE 1. -/
  | action (n : Fin 5)
deriving DecidableEq, Repr

/-- The kinds of window (Table 11-1). -/
inductive WindowKind where
  | readOnly
  | configuration
  | action
deriving DecidableEq, Repr

/-- A window class with indexes 0 to `bound - 1`; a larger index names no window. -/
def indexed (bound : Nat) (make : Fin bound → Window) (i : Nat) : Option Window :=
  if h : i < bound then some (make ⟨i, h⟩) else none

/-- A window class with a single window: any index other than 0 names no window (R163). -/
def single (w : Window) (i : Nat) : Option Window := if i = 0 then some w else none

/-- The window of a class and an index, or none (Table 11-1). -/
def windowOf (cls index : Nat) : Option Window :=
  match cls with
  | 0 => single .ident index
  | 1 => single .node index
  | 2 => indexed 12 .measure index
  | 3 => single .source index
  | 4 => indexed 4 .loop index
  | 5 => single .ice index
  | 6 => single .fog index
  | 7 => indexed 8 .light index
  | 8 => single .scene index
  | 9 => indexed 16 .cueMap index
  | 10 => indexed 6 .pins index
  | 11 => indexed 2 .cueIn index
  | 12 => indexed 7 .snap index
  | 13 => indexed 32 .peer index
  | 14 => indexed 32 .peer (16 + index)
  | _ => indexed 5 .action index

/-- The window a code names: the class in its upper four bits, the index in its lower four (R163). -/
def windowOfCode (c : Code) : Option Window := windowOf (c.toNat / 16) (c.toNat % 16)

/-- The kind of a window (Table 11-1). -/
def Window.kind : Window → WindowKind
  | .ident => .readOnly
  | .snap _ => .readOnly
  | .peer _ => .readOnly
  | .action _ => .action
  | _ => .configuration

/-- The length of a SNAP window in data bits (Table 11-1). -/
def snapLength (n : Fin 7) : Nat :=
  match n with
  | 0 => 768
  | 1 => 256
  | 2 => 384
  | 3 => 832
  | 4 => 1024
  | 5 => 128
  | 6 => 112

/-- The length L of a window in data bits (Table 11-1). -/
def Window.length : Window → Nat
  | .ident => 32
  | .node => 48
  | .measure _ => 160
  | .source => 32
  | .loop _ => 176
  | .ice => 208
  | .fog => 256
  | .light _ => 16
  | .scene => 160
  | .cueMap _ => 64
  | .pins _ => 64
  | .cueIn _ => 48
  | .snap n => snapLength n
  | .peer _ => 272
  | .action _ => 0

/-! ### Codes -/

/-- The node state in IDENT (Table 12-6). -/
def stateCode : NodeState → Nat
  | .unset => 0
  | .starting => 1
  | .listen => 2
  | .run => 3
  | .mute _ => 4

/-- The kind of MUTE in IDENT (Table 12-6). -/
def muteCode : NodeState → Nat
  | .mute .clash => 1
  | .mute .stuck => 2
  | _ => 0

/-- The last reset kind in IDENT (Table 12-6). -/
def resetCode : ResetKind → Nat
  | .power => 0
  | .pin => 1
  | .restart => 2

/-- The start fault code (Table 10-2). -/
def startFaultCode : StartFault → Nat
  | .noFault => 0
  | .address => 1
  | .bindingRepeated => 2
  | .bindingKind => 3
  | .bindingUnused => 4
  | .sourceBinding => 5
  | .loopTemperature => 6
  | .valveGenerator => 7
  | .backupPin => 8
  | .pinFunction => 9
  | .iceMargin => 10
  | .fogThreshold => 11

/-- The code of a port result (Table 11-2). -/
def resultCode : PortResult → Nat
  | .applied => 0
  | .clamped => 1
  | .discardedLength => 2
  | .refusedState => 3
  | .refusedValue => 4
  | .busy => 5
  | .noCapture => 6
  | .unknownCode => 7
  | .captured => 8

/-- The channel kind field (Table 12-12). -/
def channelKindCode : ChannelKind → Nat
  | .temp => 0
  | .humid => 1
  | .flow => 2
  | .beam => 3
  | .unused => 4

/-- The channel kind of a written field; above 4 is refused (Table 12-12). -/
def channelKindOfCode : Nat → Option ChannelKind
  | 0 => some .temp
  | 1 => some .humid
  | 2 => some .flow
  | 3 => some .beam
  | 4 => some .unused
  | _ => none

/-- The binding field; NONE is 15 (Table 12-12). -/
def bindingCode : Option Binding → Nat
  | some .iceSurface => 0
  | some .iceLayerAir => 1
  | some .bowlAirT => 2
  | some .bowlAirRh => 3
  | some .sourceSupplyT => 4
  | some .sourceReturnT => 5
  | some .sourceFlow => 6
  | some (.loopT n) => 7 + n.val
  | some .fogBeam => 11
  | none => 15

/-- The binding of a written field; 12 to 14 are refused (Table 12-12). -/
def bindingOfCode : Nat → Option (Option Binding)
  | 0 => some (some .iceSurface)
  | 1 => some (some .iceLayerAir)
  | 2 => some (some .bowlAirT)
  | 3 => some (some .bowlAirRh)
  | 4 => some (some .sourceSupplyT)
  | 5 => some (some .sourceReturnT)
  | 6 => some (some .sourceFlow)
  | 7 => some (some (.loopT 0))
  | 8 => some (some (.loopT 1))
  | 9 => some (some (.loopT 2))
  | 10 => some (some (.loopT 3))
  | 11 => some (some .fogBeam)
  | 15 => some none
  | _ => none

/-- The zero state field (Table 12-12). -/
def zeroStateCode : ZeroState → Nat
  | .notTaken => 0
  | .measuring => 1
  | .done => 2
  | .outOfRange => 3

/-- The quality field (Table 12-12). -/
def qualityCode : Quality → Nat
  | .good => 0
  | .doubt => 1
  | .failed => 2

/-- The loop class field (Table 12-8). -/
def loopClassCode : Option HeatClass → Nat
  | none => 0
  | some .heave => 1
  | some .dry => 2
  | some .stand => 3
  | some .melt => 4

/-- The loop class of a written field; above 4 is refused (Table 12-8). -/
def loopClassOfCode : Nat → Option (Option HeatClass)
  | 0 => some none
  | 1 => some (some .heave)
  | 2 => some (some .dry)
  | 3 => some (some .stand)
  | 4 => some (some .melt)
  | _ => none

/-- A field that holds an index below `bound`; any other value is refused. -/
def indexOfField (bound i : Nat) : Option (Fin bound) := if h : i < bound then some ⟨i, h⟩ else none

/-- The backup pin field; "none" is 31 (Table 12-8). -/
def backupPinCode : Option (Fin 24) → Nat
  | some p => p.val
  | none => 31

/-- The backup pin of a written field; 24 to 30 and 32 to 255 are refused (R171). -/
def backupPinOfCode (i : Nat) : Option (Option (Fin 24)) := if i = 31 then some none else (indexOfField 24 i).map some

/-- The scene level field; KEEP is 65535 (R171). -/
def levelCode : Option Nat → Nat
  | some l => l
  | none => 65535

/-- The scene level of a written field, with whether it was clamped: 65535 is KEEP, any other value above 1000 is 1000
(R171). -/
def levelOfField (v : Nat) : Option Nat × Bool := if v = 65535 then (none, false) else (some (min 1000 v), min 1000 v != v)

/-- The function kind and index fields of a pin (Table 12-18). -/
def functionCode : PinFunction → Nat × Nat
  | .dimmer n => (0, n.val)
  | .valve n => (1, n.val)
  | .backup n => (2, n.val)
  | .cueIn n => (3, n.val)
  | .fan => (4, 0)
  | .attention => (5, 0)
  | .outHigh => (6, 0)
  | .outLow => (7, 0)
  | .input => (8, 0)

/-- A function without an index: an index other than 0 is refused (Table 12-18). -/
def plainFunction (f : PinFunction) (i : Nat) : Option PinFunction := if i = 0 then some f else none

/-- The function of the written kind and index fields; a kind above 8 or an index its kind does not have is refused (Table
12-18). -/
def functionOfCode (kind i : Nat) : Option PinFunction :=
  match kind with
  | 0 => (indexOfField 8 i).map .dimmer
  | 1 => (indexOfField 4 i).map .valve
  | 2 => (indexOfField 4 i).map .backup
  | 3 => (indexOfField 2 i).map .cueIn
  | 4 => plainFunction .fan i
  | 5 => plainFunction .attention i
  | 6 => plainFunction .outHigh i
  | 7 => plainFunction .outLow i
  | 8 => plainFunction .input i
  | _ => none

/-! ### What a capture shows -/

/-- IDENT (Table 12-6). The address applied is the one written, since NODE is written only in UNSET (R152). -/
def identBits (s : State) : Bits :=
  packFields [(8, s.cfg.node.address), (4, stateCode s.node.state), (4, muteCode s.node.state),
    (4, resetCode s.node.lastReset), (4, startFaultCode s.node.startFault), (8, s.node.startFaultIndex)]

/-- NODE (Table 12-7). -/
def nodeBits (c : NodeConfig) : Bits :=
  packFields [(8, c.address), (4, c.period), (4, phaseCode c.startPhase), (16, c.mask.toNat), (16, c.lightFloor)]

/-- MEASURE n (Table 12-12): the configuration fields, then the live ones; filter ring positions not held read 0. -/
def measureBits (c : ChannelConfig) (l : ChannelLive) : Bits :=
  packFields [(4, channelKindCode c.kind), (4, bindingCode c.binding), (16, toField 16 c.trim), (1, c.autoZero.toNat), (3, 0),
    (10, c.fullScale), (10, c.stepLimit), (12, l.lastRaw), (16, toField 16 l.zeroCorrection), (2, zeroStateCode l.zeroState),
    (2, qualityCode l.quality), (3, l.ring.length), (12, l.ring.getD 0 0), (12, l.ring.getD 1 0), (12, l.ring.getD 2 0),
    (12, l.ring.getD 3 0), (16, toField 16 l.value), (2, l.outRun), (4, l.inRun), (4, l.stepHold), (3, 0)]

/-- SOURCE (Table 12-13). -/
def sourceBits (c : SourceConfig) : Bits := packFields [(16, c.capacity), (16, c.fraction)]

/-- LOOP n (Table 12-8). -/
def loopBits (c : LoopConfig) : Bits :=
  packFields [(4, loopClassCode c.cls), (4, c.valve.val), (8, backupPinCode c.backupPin), (16, c.band), (16, c.design),
    (16, toField 16 c.setIdle), (16, toField 16 c.setPlay), (16, toField 16 c.setInterval), (16, toField 16 c.setShow),
    (16, toField 16 c.setNight), (16, c.threshold), (16, c.hold), (16, c.fallback)]

/-- ICE (Table 12-14). -/
def iceBits (c : IceConfig) : Bits :=
  packFields [(16, toField 16 c.ceilIdle), (16, toField 16 c.ceilPlay), (16, toField 16 c.ceilInterval),
    (16, toField 16 c.ceilShow), (16, toField 16 c.ceilNight), (16, toField 16 c.watch), (16, c.sensitivity),
    (16, toField 16 c.upper), (16, toField 16 c.lower), (16, c.floor), (16, toField 16 c.floodRise), (16, c.floodTime),
    (16, 0)]

/-- FOG (Table 12-15). -/
def fogBits (c : FogConfig) : Bits :=
  packFields [(16, toField 16 c.watch), (16, toField 16 c.act), (16, toField 16 c.hysteresis), (16, toField 16 c.allowance),
    (16, toField 16 c.beamThreshold), (16, toField 16 c.beamHysteresis), (16, c.beamHold), (16, c.clearTime),
    (16, c.regenClear), (16, c.regenWatch), (16, c.regenAct), (16, c.regenFog), (16, c.curtailClear), (16, c.curtailWatch),
    (16, c.curtailAct), (16, c.curtailFog)]

/-- Eight strobe marks as a byte, bit 7 channel 7 to bit 0 channel 0 (Table 12-9). -/
def marksByte (marks : Vector Bool 8) : Nat := ((List.finRange 8).map fun n => (marks[n]).toNat * 2 ^ n.val).sum

/-- SCENE (Table 12-9), with the number of the scene shown. -/
def sceneBits (number : Nat) (c : Scene) : Bits :=
  packFields ([(8, number)] ++ (List.finRange 8).map (fun n => (16, levelCode c.levels[n])) ++
    [(8, marksByte c.marks), (8, c.onWidth), (8, c.offWidth)])

/-- Entry j of CUEMAP i: entry 4i + j (Table 12-17). -/
def cueMapAt (i : Fin 16) (j : Fin 4) : Fin 64 := ⟨4 * i.val + j.val, by omega⟩

/-- Pin j of PINS i: pin 4i + j (Table 12-18). -/
def pinAt (i : Fin 6) (j : Fin 4) : Fin 24 := ⟨4 * i.val + j.val, by omega⟩

/-- CUEMAP i (Table 12-17). -/
def cueMapBits (m : Vector CueMapEntry 64) (i : Fin 16) : Bits :=
  ((List.finRange 4).map fun j =>
    packFields [(8, (m[cueMapAt i j]).cue), (8, (m[cueMapAt i j]).scene.val)]).flatten

/-- One pin's 16 bits of a PINS window (Table 12-18). -/
def pinBits (c : PinConfig) : Bits :=
  packFields [(4, (functionCode c.function).1), (4, (functionCode c.function).2),
    (1, match c.drive with | .pushPull => 0 | .openDrain => 1), (1, c.pullUp.toNat),
    (1, match c.polarity with | .normal => 0 | .inverted => 1), (5, 0)]

/-- PINS i (Table 12-18). -/
def pinsBits (pins : Vector PinConfig 24) (i : Fin 6) : Bits :=
  ((List.finRange 4).map fun j => pinBits pins[pinAt i j]).flatten

/-- CUEIN n (Table 12-19). -/
def cueInBits (c : CueInputConfig) : Bits :=
  packFields [(8, c.number), (3, cuePhaseCode c.phase), (5, 0), (16, c.wait), (16, c.fade)]

/-- The cause flags as the twelve bits of SNAP 6: bit i for cause index i (Table 12-10). -/
def causeFlags (causes : Vector CauseEntry 12) : Nat :=
  ((List.finRange 12).map fun i => (causes[i]).flag.toNat * 2 ^ i.val).sum

/-- SNAP 6 (Table 12-10). -/
def causesBits (s : State) : Bits :=
  packFields ([(1, (attention s).toNat), (3, 0), (12, causeFlags s.node.causes)] ++
    (List.finRange 12).map fun i => (8, (s.node.causes[i]).count))

/-! ### What a write makes of its data -/

/-- A write refused for a value (none), or the configuration written with whether a field was clamped (R167, steps 2 and 3). -/
abbrev Written := Option (Configuration × Bool)

/-- A 16-bit signed field clamped to its range (Tables 12-8 to 12-15). -/
def clampSigned (lo hi : Int) (v : Nat) : Int × Bool := clampField lo hi (signed16 v)

/-- A 16-bit unsigned field kept as an integer, clamped to its range. -/
def clampPlain (lo hi : Int) (v : Nat) : Int × Bool := clampField lo hi (v : Int)

/-- A write of NODE (Table 12-7, R152). -/
def writeNode (d : Nat) (cfg : Configuration) : Written :=
  (phaseOfCode (field d 35 32)).map fun phase =>
    let address := clampNat 0 60 (field d 47 40)
    let period := clampNat 0 7 (field d 39 36)
    let floor := clampNat 0 1000 (field d 15 0)
    ({ cfg with
        node :=
          { address := address.1, period := period.1, mask := BitVec.ofNat 12 (field d 27 16), lightFloor := floor.1,
            startPhase := phase } },
      address.2 || period.2 || floor.2)

/-- A write of MEASURE n (Table 12-12, R1): the live fields are neither judged nor written. -/
def writeMeasure (n : Fin 12) (d : Nat) (cfg : Configuration) : Written :=
  match channelKindOfCode (field d 159 156), bindingOfCode (field d 155 152) with
  | some kind, some binding =>
    let trim := clampSigned (-200) 200 (field d 151 136)
    let full := clampNat 1 1000 (field d 131 122)
    let step := clampNat 0 1000 (field d 121 112)
    some
      ({ cfg with
          channels := setAt cfg.channels n
            { kind := kind, binding := binding, trim := trim.1, autoZero := flagBit d 135, fullScale := full.1,
              stepLimit := step.1 } },
        trim.2 || full.2 || step.2)
  | _, _ => none

/-- A write of SOURCE (Table 12-13). -/
def writeSource (d : Nat) (cfg : Configuration) : Written :=
  let capacity := clampNat 1000 4500 (field d 31 16)
  let fraction := clampNat 0 1000 (field d 15 0)
  some ({ cfg with source := { capacity := capacity.1, fraction := fraction.1 } }, capacity.2 || fraction.2)

/-- A write of LOOP n (Table 12-8). -/
def writeLoop (n : Fin 4) (d : Nat) (cfg : Configuration) : Written :=
  match loopClassOfCode (field d 175 172), indexOfField 4 (field d 171 168), backupPinOfCode (field d 167 160) with
  | some cls, some valve, some pin =>
    let band := clampNat 10 200 (field d 159 144)
    let design := clampNat 0 4000 (field d 143 128)
    let idle := clampSigned (-500) 1000 (field d 127 112)
    let play := clampSigned (-500) 1000 (field d 111 96)
    let interval := clampSigned (-500) 1000 (field d 95 80)
    let sho := clampSigned (-500) 1000 (field d 79 64)
    let night := clampSigned (-500) 1000 (field d 63 48)
    let threshold := clampNat 0 4000 (field d 47 32)
    let hold := clampNat 0 600 (field d 31 16)
    let fallback := clampNat 0 4000 (field d 15 0)
    some
      ({ cfg with
          loops := setAt cfg.loops n
            { cls := cls, design := design.1, setIdle := idle.1, setPlay := play.1, setInterval := interval.1,
              setShow := sho.1, setNight := night.1, band := band.1, valve := valve, backupPin := pin,
              threshold := threshold.1, hold := hold.1, fallback := fallback.1 } },
        band.2 || design.2 || idle.2 || play.2 || interval.2 || sho.2 || night.2 || threshold.2 || hold.2 ||
          fallback.2)
  | _, _, _ => none

/-- A write of ICE (Table 12-14). -/
def writeIce (d : Nat) (cfg : Configuration) : Written :=
  let idle := clampSigned (-200) 50 (field d 207 192)
  let play := clampSigned (-200) 50 (field d 191 176)
  let interval := clampSigned (-200) 50 (field d 175 160)
  let sho := clampSigned (-200) 50 (field d 159 144)
  let night := clampSigned (-200) 50 (field d 143 128)
  let watch := clampPlain 5 50 (field d 127 112)
  let sensitivity := clampNat 0 100 (field d 111 96)
  let upper := clampSigned (-100) 100 (field d 95 80)
  let lower := clampSigned (-100) 100 (field d 79 64)
  let floor := clampNat 0 1000 (field d 63 48)
  let rise := clampPlain 5 100 (field d 47 32)
  let time := clampNat 60 900 (field d 31 16)
  some
    ({ cfg with
        ice :=
          { ceilIdle := idle.1, ceilPlay := play.1, ceilInterval := interval.1, ceilShow := sho.1, ceilNight := night.1,
            watch := watch.1, sensitivity := sensitivity.1, upper := upper.1, lower := lower.1, floor := floor.1,
            floodRise := rise.1, floodTime := time.1 } },
      idle.2 || play.2 || interval.2 || sho.2 || night.2 || watch.2 || sensitivity.2 || upper.2 || lower.2 ||
        floor.2 || rise.2 || time.2)

/-- A write of FOG (Table 12-15). -/
def writeFog (d : Nat) (cfg : Configuration) : Written :=
  let watch := clampSigned (-200) 300 (field d 255 240)
  let act := clampSigned (-200) 300 (field d 239 224)
  let hysteresis := clampPlain 0 100 (field d 223 208)
  let allowance := clampPlain 0 200 (field d 207 192)
  let beam := clampPlain 0 1000 (field d 191 176)
  let beamHyst := clampPlain 0 300 (field d 175 160)
  let hold := clampNat 2 60 (field d 159 144)
  let clear := clampNat 10 600 (field d 143 128)
  let r0 := clampNat 0 1000 (field d 127 112)
  let r1 := clampNat 0 1000 (field d 111 96)
  let r2 := clampNat 0 1000 (field d 95 80)
  let r3 := clampNat 0 1000 (field d 79 64)
  let c0 := clampNat 0 1000 (field d 63 48)
  let c1 := clampNat 0 1000 (field d 47 32)
  let c2 := clampNat 0 1000 (field d 31 16)
  let c3 := clampNat 0 1000 (field d 15 0)
  some
    ({ cfg with
        fog :=
          { watch := watch.1, act := act.1, hysteresis := hysteresis.1, allowance := allowance.1,
            beamThreshold := beam.1, beamHysteresis := beamHyst.1, beamHold := hold.1, clearTime := clear.1,
            regenClear := r0.1, regenWatch := r1.1, regenAct := r2.1, regenFog := r3.1, curtailClear := c0.1,
            curtailWatch := c1.1, curtailAct := c2.1, curtailFog := c3.1 } },
      watch.2 || act.2 || hysteresis.2 || allowance.2 || beam.2 || beamHyst.2 || hold.2 || clear.2 || r0.2 || r1.2 ||
        r2.2 || r3.2 || c0.2 || c1.2 || c2.2 || c3.2)

/-- A write of LIGHT n (Table 12-16). -/
def writeLight (n : Fin 8) (d : Nat) (cfg : Configuration) : Written :=
  let coefficient := clampNat 0 500 (field d 15 0)
  some ({ cfg with coefficients := setAt cfg.coefficients n coefficient.1 }, coefficient.2)

/-- The level field of channel n in SCENE data: channel 0 first, bits 151 to 24 (Table 12-9). -/
def sceneLevelField (d : Nat) (n : Fin 8) : Nat := field d (151 - 16 * n.val) (136 - 16 * n.val)

/-- The scene of SCENE data, with whether a field was clamped (Table 12-9). -/
def sceneOfData (d : Nat) : Scene × Bool :=
  let on := clampNat 1 255 (field d 15 8)
  let off := clampNat 1 255 (field d 7 0)
  ({ levels := Vector.ofFn fun n => (levelOfField (sceneLevelField d n)).1
     marks := Vector.ofFn fun n => flagBit d (16 + n.val)
     onWidth := on.1
     offWidth := off.1 },
    on.2 || off.2 || (List.finRange 8).any fun n => (levelOfField (sceneLevelField d n)).2)

/-- A write of SCENE, applied to the scene named in its own data (Table 12-9, R167). -/
def writeScene (d : Nat) (cfg : Configuration) : Written :=
  (indexOfField 32 (field d 159 152)).map fun k =>
    ({ cfg with scenes := setAt cfg.scenes k (sceneOfData d).1 }, (sceneOfData d).2)

/-- Entry j of CUEMAP data: its cue number and its scene number field (Table 12-17). -/
def cueMapField (d : Nat) (j : Fin 4) : Nat × Nat :=
  (field d (63 - 16 * j.val) (56 - 16 * j.val), field d (55 - 16 * j.val) (48 - 16 * j.val))

/-- Entry j of CUEMAP data; a scene number above 31 is refused (Table 12-17). -/
def cueMapEntryOf (d : Nat) (j : Fin 4) : Option CueMapEntry :=
  (indexOfField 32 (cueMapField d j).2).map fun k => { cue := (cueMapField d j).1, scene := k }

/-- The four records of a window, where all four are listed values (R167, step 2). -/
def allFour {α : Type} (f : Fin 4 → Option α) : Option (Vector α 4) :=
  match f 0, f 1, f 2, f 3 with
  | some a, some b, some c, some d => some #v[a, b, c, d]
  | _, _, _, _ => none

/-- A vector with the records at four indexes replaced. -/
def setFour {α : Type} {n : Nat} (v : Vector α n) (index : Fin 4 → Fin n) (x : Vector α 4) : Vector α n :=
  setAt (setAt (setAt (setAt v (index 0) x[0]) (index 1) x[1]) (index 2) x[2]) (index 3) x[3]

/-- A write of CUEMAP i (Table 12-17). -/
def writeCueMap (i : Fin 16) (d : Nat) (cfg : Configuration) : Written :=
  (allFour (cueMapEntryOf d)).map fun x => ({ cfg with cueMap := setFour cfg.cueMap (cueMapAt i) x }, false)

/-- Pin j of PINS data; a function kind or index that is not listed is refused (Table 12-18). -/
def pinOfData (d : Nat) (j : Fin 4) : Option PinConfig :=
  (functionOfCode (field d (63 - 16 * j.val) (60 - 16 * j.val)) (field d (59 - 16 * j.val) (56 - 16 * j.val))).map fun f =>
    { function := f
      drive := if flagBit d (55 - 16 * j.val) then .openDrain else .pushPull
      pullUp := flagBit d (54 - 16 * j.val)
      polarity := if flagBit d (53 - 16 * j.val) then .inverted else .normal }

/-- A write of PINS i (Table 12-18). -/
def writePins (i : Fin 6) (d : Nat) (cfg : Configuration) : Written :=
  (allFour (pinOfData d)).map fun x => ({ cfg with pins := setFour cfg.pins (pinAt i) x }, false)

/-- A write of CUEIN n (Table 12-19). -/
def writeCueIn (n : Fin 2) (d : Nat) (cfg : Configuration) : Written :=
  (cuePhaseOfCode (field d 39 37)).map fun phase =>
    let wait := clampNat 0 600 (field d 31 16)
    let fade := clampNat 0 600 (field d 15 0)
    ({ cfg with
        cueInputs := setAt cfg.cueInputs n { number := field d 47 40, phase := phase, wait := wait.1, fade := fade.1 } },
      wait.2 || fade.2)

/-- A write of exact length to a configuration window (R167, steps 2 and 3); other windows are not written. -/
def writeWindow (w : Window) (d : Nat) (cfg : Configuration) : Written :=
  match w with
  | .node => writeNode d cfg
  | .measure n => writeMeasure n d cfg
  | .source => writeSource d cfg
  | .loop n => writeLoop n d cfg
  | .ice => writeIce d cfg
  | .fog => writeFog d cfg
  | .light n => writeLight n d cfg
  | .scene => writeScene d cfg
  | .cueMap i => writeCueMap i d cfg
  | .pins i => writePins i d cfg
  | .cueIn n => writeCueIn n d cfg
  | .ident => none
  | .snap _ => none
  | .peer _ => none
  | .action _ => none

end Sys2Proof.Machine
end

