-- ==== Sys2Proof/Machine/Port.lean ====
section
/-!
DEFINITION. The Setup Port (chapter 11): one transaction from the fall of PSEL to its rise, the capture, the results, the
writes, the actions and the acknowledge, and the meanings of the ten rows about the port.
-/
namespace Sys2Proof.Machine

/-! ### Capture -/

/-- The bits of a result as the leading byte of a stage (R164, Table 11-2). -/
def resultBits (r : PortResult) : Bits := bitsOfNat 8 (resultCode r)

/-- What the line snapshot shows of a frame (R170). -/
def viewOf (x : Queued) : FrameView := { kind := x.frame.kind, attempt := x.attempt }

/-- The contents of SNAP n at this instant (R72, R89, R111, R131, R143, R151, R161, R170). Whether the node has a source, ice and
the two fog paths, and the loops' classes, are those of the configuration the blocks go by (log entry 32). On a node without a margin
path SNAP 1 shows the flood-in-view condition as it stands: it is not one of the margin fields (DEDUCED, log entry 33). SNAP 4 shows
neither field that the model added to a record of R143 or R151, the part of a count time and the last sampled level (log entry 5); SNAP
5 shows the CUE places by age (DESIGN CHOICE, log entry 39). -/
def snapOf (s : State) (n : Fin 7) : Snapshot :=
  match n with
  | 0 => .heat s.freeCount (hasSource s.applied) (Vector.ofFn fun i => (s.applied.loops[i]).cls) s.heat
  | 1 => .fog (hasMarginPath s.applied) (hasBeamPath s.applied) s.fog
  | 2 => .ice (hasIce s.applied) s.ice
  | 3 => .light s.light
  | 4 => .pins (Vector.ofFn (rawLevel s)) s.gens.shown (Vector.ofFn fun i => (s.gens.dimmers[i]).gated)
      (s.pins.cueInputs.map CueInput.shown)
  | 5 =>
    .line s.line.score s.line.degraded s.line.ownSequence s.line.cueSerial s.comp.first s.node.state
      (s.line.queue.statusPlace.map viewOf) (s.line.queue.fogPlace.map viewOf) (s.line.queue.recallPlace.map viewOf)
      (s.line.queue.replayPlace.map viewOf) (s.line.queue.cuePlaces.map viewOf) (s.line.stage.map fun x => viewOf x.queued)
  | 6 => .laidOut (causesBits s)

/-- What a PEER window shows (R34): the entry at its position; where the position holds none, and at index 15 of class 14, which has
no position, address 0 and every other field 0 or absent. -/
def peerAt (s : State) (position : Fin 32) : PeerEntry :=
  if position = 31 then .blank 0 else s.peers.getD position.val (.blank 0)

/-- The contents of a window at this instant (R164). -/
def contentsOf (s : State) : Window → Snapshot
  | .ident => .laidOut (identBits s)
  | .node => .laidOut (nodeBits s.cfg.node)
  | .measure n => .laidOut (measureBits s.cfg.channels[n] s.meas.channels[n])
  | .source => .laidOut (sourceBits s.cfg.source)
  | .loop n => .laidOut (loopBits s.cfg.loops[n])
  | .ice => .laidOut (iceBits s.cfg.ice)
  | .fog => .laidOut (fogBits s.cfg.fog)
  | .light n => .laidOut (bitsOfNat 16 s.cfg.coefficients[n])
  | .scene => .laidOut (sceneBits s.port.scenePointer.val s.cfg.scenes[s.port.scenePointer])
  | .cueMap i => .laidOut (cueMapBits s.cfg.cueMap i)
  | .pins i => .laidOut (pinsBits s.cfg.pins i)
  | .cueIn n => .laidOut (cueInBits s.cfg.cueInputs[n])
  | .snap n => snapOf s n
  | .peer position => .peer (peerAt s position)
  | .action _ => .laidOut []

/-- The L bits a captured window is shifted out as: the layout chapter 12 gives, or bit by bit a free value (log entry 5). -/
def shownBits (length : Nat) : Snapshot → Bits
  | .laidOut bits => bits
  | snap => (List.range length).map (Config.snapshotBit snap)

/-- The shift stage a capture fills: the last result, then the window's contents (R164). -/
def stageOf (s : State) (w : Window) : Bits := resultBits s.port.lastResult ++ shownBits w.length (contentsOf s w)

/-- The captured cause set is stored by a capture of SNAP 6 (R164). -/
def storesSet (w : Window) : Bool := decide (w = .snap 6)

/-- Whether a capture shows values the model leaves free: SNAP 0's elapsed times and SNAP 4's levels. -/
def takesReading (w : Window) : Bool := decide (w = .snap 0) || decide (w = .snap 4)

/-! ### The lines -/

/-- What PDO carries (R162): released in PORT_IDLE, driven low in CODE, and in SHIFT the next bit of the stage. -/
def SetupPort.pdoLevel (p : SetupPort) : Option Bool :=
  match p.state with
  | .portIdle => none
  | .code => some false
  | .shift => some (p.stage.headD false)

/-- The fall of PSEL: CODE, with no bit taken (R162). -/
def SetupPort.select (p : SetupPort) : SetupPort := { p with state := .code, code := 0, count := 0, pdo := [] }

/-- One rising edge of PCLK in CODE: a code bit is taken, most significant first (R162). -/
def SetupPort.takeCodeBit (p : SetupPort) (b : Bool) : SetupPort :=
  { p with code := 2 * p.code + b.toNat, count := p.count + 1, pdo := p.pdo ++ [p.pdoLevel] }

/-- The entry into SHIFT at the eighth code bit, with what the stage then holds (R162, R163, R164). -/
def SetupPort.openShift (p : SetupPort) (stage : Bits) : SetupPort := { p with state := .shift, count := 0, stage := stage }

/-- One rising edge of PCLK in SHIFT: the bit that PDO showed has left, and the PDI bit enters the stage at its far end (R165; R163 for
the pass stage). -/
def SetupPort.takeShiftBit (p : SetupPort) (b : Bool) : SetupPort :=
  { p with stage := p.stage.drop 1 ++ [b], count := p.count + 1, pdo := p.pdo ++ [p.pdoLevel] }

/-- The rise of PSEL: PORT_IDLE (R162). -/
def SetupPort.deselect (p : SetupPort) : SetupPort := { p with state := .portIdle }

/-- The fall of PSEL and the code bits that follow it. -/
def State.receiveCode (s : State) (bits : Bits) : State := s.setPort (bits.foldl SetupPort.takeCodeBit s.port.select)

/-- The bits of a transaction taken in SHIFT. -/
def State.shiftBits (s : State) (pdi : Bits) : State := s.setPort (pdi.foldl SetupPort.takeShiftBit s.port)

/-- The rise of PSEL at the port. -/
def State.raiseSelect (s : State) : State := s.setPort s.port.deselect

/-- The capture of a window (R164): the stage, the contents, and for SNAP 6 the captured cause set; a capture that shows free values
takes a reading of its own. -/
def State.captureWindow (s : State) (w : Window) : State :=
  (s.setPort { s.port.openShift (stageOf s w) with
    snapshot := some (contentsOf s w)
    capturedSet := if storesSet w then some (captureSet s) else s.port.capturedSet }).setFreeCount
      (s.freeCount + (takesReading w).toNat)

/-! ### The end of a transaction -/

/-- The state with another last result. -/
def State.setResult (s : State) (r : PortResult) : State := s.setPort { s.port with lastResult := r }

/-- The data bits of a transaction: the PDI bits from the ninth rising edge in SHIFT on (R165). -/
def dataBits (pdi : Bits) : Bits := pdi.drop 8

/-- A transaction has shifted exactly its window's length (R165). -/
def exactLength (w : Window) (pdi : Bits) : Bool := decide (pdi.length = 8 + w.length)

/-- The scene pointer after a SCENE transaction: set where at least 8 data bits were taken and their number is 0 to 31 (R165). -/
def pointerAfter (p : Fin 32) (pdi : Bits) : Fin 32 :=
  if 8 ≤ (dataBits pdi).length then (indexOfField 32 (natOfBits ((dataBits pdi).take 8))).getD p else p

/-- The state with its scene pointer set by a SCENE transaction. -/
def State.setPointer (s : State) (pdi : Bits) : State :=
  s.setPort { s.port with scenePointer := pointerAfter s.port.scenePointer pdi }

/-- A configuration write of exact length, judged in the order of R167. -/
def State.applyWrite (s : State) (w : Window) (data : Nat) : State :=
  if s.node.state ≠ .unset then s.setResult .refusedState
  else
    match writeWindow w data s.cfg with
    | none => s.setResult .refusedValue
    | some (cfg, clamped) => (s.setCfg cfg).setResult (if clamped then .clamped else .applied)

/-- START (R155, R168, Table 10-3). -/
def State.actStart (s : State) : State :=
  match s.node.state with
  | .unset => s.takeStart.setResult (if (startChecks s.cfg).isSome then .refusedValue else .applied)
  | _ => s.setResult .refusedState

/-- RESTART (R158, R168, Table 10-3). -/
def State.actRestart (s : State) : State :=
  match s.node.state with
  | .unset => s.setResult .refusedState
  | .starting => s.setResult .busy
  | _ => s.restartNode.setResult .applied

/-- ACK (R168, R169, Table 10-3). -/
def State.actAck (s : State) : State :=
  match s.node.state, s.port.capturedSet with
  | .starting, _ => s.setResult .refusedState
  | _, none => s.setResult .noCapture
  | _, some set => (s.acknowledge set).setResult .applied

/-- PULSE n (R149, R168, Table 10-3). -/
def State.actPulse (s : State) (n : Fin 2) : State :=
  match s.node.state with
  | .unset => s.setResult .refusedState
  | .starting => s.setResult .busy
  | _ => (s.originate n).setResult .applied

/-- An action of exact length (R168). -/
def State.applyAction (s : State) (n : Fin 5) : State :=
  match n with
  | 0 => s.actStart
  | 1 => s.actRestart
  | 2 => s.actAck
  | 3 => s.actPulse 0
  | 4 => s.actPulse 1

/-- The end of a transaction on a window by the window's kind and the length (R166). -/
def State.endTransaction (s : State) (w : Window) (pdi : Bits) : State :=
  match w with
  | .action n => if exactLength w pdi then s.applyAction n else s.setResult .discardedLength
  | .scene =>
    (if exactLength w pdi then s.applyWrite w (natOfBits (dataBits pdi)) else s.setResult .discardedLength).setPointer pdi
  | .ident => s.setResult .captured
  | .snap _ => s.setResult .captured
  | .peer _ => s.setResult .captured
  | _ => if exactLength w pdi then s.applyWrite w (natOfBits (dataBits pdi)) else s.setResult .discardedLength

/-- A transaction on a window: the code, the capture, the shifting and the end. -/
def State.transactWindow (s : State) (c : Code) (w : Window) (pdi : Bits) : State :=
  (((s.receiveCode (bitsOfNat 8 c.toNat)).captureWindow w).shiftBits pdi).raiseSelect.endTransaction w pdi

/-- The entry into SHIFT under an unknown code: the pass stage holds the last code bit, and nothing is captured (R163). -/
def State.openPass (s : State) (c : Code) : State := s.setPort (s.port.openShift [c.getLsbD 0])

/-- A transaction under an unknown code (R163): PDI is passed to PDO one bit later, and nothing is applied. -/
def State.passThrough (s : State) (c : Code) (pdi : Bits) : State :=
  (((s.receiveCode (bitsOfNat 8 c.toNat)).openPass c).shiftBits pdi).raiseSelect.setResult .unknownCode

/-- A transaction under a code, known or unknown, with the PDI bits taken in SHIFT. -/
def State.transact (s : State) (c : Code) (pdi : Bits) : State :=
  match windowOfCode c with
  | some w => s.transactWindow c w pdi
  | none => s.passThrough c pdi

/-- A transaction that ends in CODE, after fewer than eight code bits (R166): nothing is captured and nothing applied. -/
def State.endInCode (s : State) (bits : Bits) : State :=
  (s.receiveCode bits).raiseSelect.setResult .discardedLength

/-- The port can take a transaction: the reset pin is released, and the port does not wait for PSEL to be seen high (R154, R162). -/
def portReady (s : State) : Bool := !s.resetHeld && !s.port.waitHigh

/-! ### The rows -/

/-- The code of a window of class 12 to 15 or SCENE, written as in Table 11-1. -/
def codeOf (cls index : Nat) : Code := BitVec.ofNat 8 (16 * cls + index)

/-- The PDI bits of an action: the eight that enter while the result byte leaves; they are not data and no state keeps them (R165,
R166). -/
def actionBits : Bits := List.replicate 8 false

/-- START (R155, R168). -/
def execStart (s : State) : Answer := takenIf (portReady s) s (s.transact (codeOf 15 0) actionBits)

/-- RESTART (R158, R168). -/
def execRestart (s : State) : Answer := takenIf (portReady s) s (s.transact (codeOf 15 1) actionBits)

/-- ACK (R168, R169). -/
def execAck (s : State) : Answer := takenIf (portReady s) s (s.transact (codeOf 15 2) actionBits)

/-- PULSE n (R149, R168). -/
def execPulse (n : Fin 2) (s : State) : Answer := takenIf (portReady s) s (s.transact (codeOf 15 (3 + n.val)) actionBits)

/-- CAUSES_SNAPSHOT (R164, R166): a transaction on SNAP 6. -/
def execCausesSnapshot (pdi : Bits) (s : State) : Answer := takenIf (portReady s) s (s.transact (codeOf 12 6) pdi)

/-- Whether a code names a configuration window and the transaction has its exact length. -/
def isExactWrite (c : Code) (pdi : Bits) : Bool :=
  (windowOfCode c).any fun w => decide (w.kind = .configuration) && exactLength w pdi

/-- CONFIGURATION_WRITE (R167): an exact-length transaction on a configuration window. -/
def execConfigurationWrite (c : Code) (pdi : Bits) (s : State) : Answer :=
  takenIf (portReady s && isExactWrite c pdi) s (s.transact c pdi)

/-- SCENE_WRITE (R165, R167): a transaction on SCENE, of any length. -/
def execSceneWrite (pdi : Bits) (s : State) : Answer := takenIf (portReady s) s (s.transact (codeOf 8 0) pdi)

/-- UNKNOWN_CODE (R163). -/
def execUnknownCode (c : Code) (pdi : Bits) (s : State) : Answer :=
  takenIf (portReady s && (windowOfCode c).isNone) s (s.transact c pdi)

/-- The code that the first eight of a transaction's bits spell. -/
def codeOfBits (bits : Bits) : Code := BitVec.ofNat 8 (natOfBits (bits.take 8))

/-- Whether a code names a configuration or action window and the transaction has another length than its exact one. -/
def isWrongLength (c : Code) (pdi : Bits) : Bool :=
  (windowOfCode c).any fun w => decide (w.kind ≠ .readOnly) && !exactLength w pdi

/-- DISCARDED_LENGTH (R166): all the transaction's PDI bits, the code bits first. -/
def execDiscardedLength (bits : Bits) (s : State) : Answer :=
  if bits.length < 8 then takenIf (portReady s) s (s.endInCode bits)
  else takenIf (portReady s && isWrongLength (codeOfBits bits) (bits.drop 8)) s (s.transact (codeOfBits bits) (bits.drop 8))

/-- Whether a code names IDENT, SNAP 0 to SNAP 5 or PEER. -/
def isReadOnlyCode (c : Code) : Bool :=
  (windowOfCode c).any fun w => decide (w.kind = .readOnly) && decide (w ≠ .snap 6)

/-- What the outside holds at the pins is seen where the capture is SNAP 4's (R147). -/
def State.seePins (s : State) (c : Code) (b : Board) : State := if windowOfCode c = some (.snap 4) then s.setBoard b else s

/-- READ_ONLY_WINDOW_TRANSACTION (R164, R166): IDENT, SNAP 0 to SNAP 5 or PEER, of any length. -/
def execReadOnlyWindowTransaction (c : Code) (pdi : Bits) (b : Board) (s : State) : Answer :=
  takenIf (portReady s && isReadOnlyCode c) s ((s.seePins c b).transact c pdi)

end Sys2Proof.Machine
end

