-- ==== Sys2Proof/WellFormed.lean ====
section
/-!
DEFINITION. Which commands are well formed: those whose operands are of their row's form. A command that is not well formed
names no event of the LZ20, and its meaning leaves the state unchanged (log entry 1).
-/
namespace Sys2Proof

open Machine

/-- A peer address (R23): 1 to 60. -/
def peerAddress (a : Nat) : Bool := decide (1 ≤ a) && decide (a ≤ 60)

/-- A valid frame of a kind (R51). -/
def validOfKind (f : Frame) (k : FrameKind) : Bool := f.valid && decide (f.kind = k)

/-- The form of the operands of each row. -/
def wellFormed : Instr → Bool
  | .powerOn _ => true
  | .resetPinAssertion => true
  | .resetPinRelease _ => true
  | .start => true
  | .restart => true
  | .ack => true
  | .pulse _ => true
  | .causesSnapshot _ => true
  | .configurationWrite c pdi => isExactWrite c pdi
  | .sceneWrite _ => true
  | .unknownCode c _ => (windowOfCode c).isNone
  | .discardedLength bits => decide (bits.length < 8) || isWrongLength (codeOfBits bits) (bits.drop 8)
  | .zeroReferenceConversion _ _ => true
  | .zeroMeasurementComplete _ _ => true
  | .scan => true
  | .channelConversion _ _ => true
  | .sensorFailed _ _ => true
  | .channelRecovery _ _ => true
  | .statusPeriodExpiry => true
  | .phaseSplit a => peerAddress a
  | .enterRun => true
  | .ageingStep => true
  | .entryStale a => peerAddress a
  | .entryLost a => peerAddress a
  | .statusReceived f => validOfKind f .status
  | .fogReceived f => validOfKind f .fog
  | .cueReceived f => validOfKind f .cue && !f.replayMark
  | .replayReceived f => validOfKind f .cue && f.replayMark
  | .recallReceived f => validOfKind f .recall
  | .invalidFrame r => badReception r
  | .fragment r => fragmentForm r
  | .release => true
  | .defer => true
  | .slotStart => true
  | .collision => true
  | .disturbance => true
  | .frameDrop _ => true
  | .wholeSend => true
  | .stuckLine => true
  | .stuckLineEnd => true
  | .iceEvaluation => true
  | .floodEnd => true
  | .iceWarm => true
  | .iceHoldEnd => true
  | .fogEvaluation => true
  | .beamFogSet => true
  | .beamFogClear => true
  | .marginUnavailable => true
  | .backupExpiry => true
  | .backupOn _ => true
  | .loopFallback _ => true
  | .fadeStep => true
  | .pendingCueExpiry => true
  | .fadeEnd _ => true
  | .capStep => true
  | .cueInputSample _ => true
  | .cueInputArm _ _ => true
  | .acceptedEdge _ _ => true
  | .generatorPeriodStart _ => true
  | .generatorCountReachesLevel _ => true
  | .strobeTimerExpiry _ => true
  | .validFrameOwnAddress f => f.valid
  | .readOnlyWindowTransaction c _ _ => isReadOnlyCode c
  | .pselSeenHigh => true

end Sys2Proof
end

