-- ==== Sys2Proof/Decode.lean ====
section
/-!
DEFINITION. The command that a word of spec/opcode_table.json spells. The LZ20 decodes no words: its commands are events, and no
row of the table gives bits, so that no word spells one.
-/
namespace Sys2Proof

/-- The command of a word of `nbits` bits, by the table's bits: every row has an empty list of fields, so none. -/
def decodeTableWord (_nbits _w : Nat) : Option Instr := none

end Sys2Proof
end

