-- ==== Sys2Proof/Machine/Dispatch.lean ====
section
/-!
DEFINITION. The one meaning of every command.
-/
namespace Sys2Proof.Machine

/-- A command's effect on everything but the queue of waiting commands: one meaning for each row. -/
def exec (i : Instr) (s : State) : Host.Outcome State Fault Refusal :=
  match i with
  | .powerOn psel => Sys2Proof.Machine.execPowerOn psel s
  | .resetPinAssertion => Sys2Proof.Machine.execResetPinAssertion s
  | .resetPinRelease psel => Sys2Proof.Machine.execResetPinRelease psel s
  | .start => Sys2Proof.Machine.execStart s
  | .restart => Sys2Proof.Machine.execRestart s
  | .ack => Sys2Proof.Machine.execAck s
  | .pulse n => Sys2Proof.Machine.execPulse n s
  | .causesSnapshot pdi => Sys2Proof.Machine.execCausesSnapshot pdi s
  | .configurationWrite code pdi => Sys2Proof.Machine.execConfigurationWrite code pdi s
  | .sceneWrite pdi => Sys2Proof.Machine.execSceneWrite pdi s
  | .unknownCode code pdi => Sys2Proof.Machine.execUnknownCode code pdi s
  | .discardedLength pdi => Sys2Proof.Machine.execDiscardedLength pdi s
  | .zeroReferenceConversion n raw => Sys2Proof.Machine.execZeroReferenceConversion n raw s
  | .zeroMeasurementComplete n raw => Sys2Proof.Machine.execZeroMeasurementComplete n raw s
  | .scan => Sys2Proof.Machine.execScan s
  | .channelConversion n raw => Sys2Proof.Machine.execChannelConversion n raw s
  | .sensorFailed n raw => Sys2Proof.Machine.execSensorFailed n raw s
  | .channelRecovery n raw => Sys2Proof.Machine.execChannelRecovery n raw s
  | .statusPeriodExpiry => Sys2Proof.Machine.execStatusPeriodExpiry s
  | .phaseSplit address => Sys2Proof.Machine.execPhaseSplit address s
  | .enterRun => Sys2Proof.Machine.execEnterRun s
  | .ageingStep => Sys2Proof.Machine.execAgeingStep s
  | .entryStale address => Sys2Proof.Machine.execEntryStale address s
  | .entryLost address => Sys2Proof.Machine.execEntryLost address s
  | .statusReceived f => Sys2Proof.Machine.execStatusReceived f s
  | .fogReceived f => Sys2Proof.Machine.execFogReceived f s
  | .cueReceived f => Sys2Proof.Machine.execCueReceived f s
  | .replayReceived f => Sys2Proof.Machine.execReplayReceived f s
  | .recallReceived f => Sys2Proof.Machine.execRecallReceived f s
  | .invalidFrame r => Sys2Proof.Machine.execInvalidFrame r s
  | .fragment r => Sys2Proof.Machine.execFragment r s
  | .release => Sys2Proof.Machine.execRelease s
  | .defer => Sys2Proof.Machine.execDefer s
  | .slotStart => Sys2Proof.Machine.execSlotStart s
  | .collision => Sys2Proof.Machine.execCollision s
  | .disturbance => Sys2Proof.Machine.execDisturbance s
  | .frameDrop how => Sys2Proof.Machine.execFrameDrop how s
  | .wholeSend => Sys2Proof.Machine.execWholeSend s
  | .stuckLine => Sys2Proof.Machine.execStuckLine s
  | .stuckLineEnd => Sys2Proof.Machine.execStuckLineEnd s
  | .iceEvaluation => Sys2Proof.Machine.execIceEvaluation s
  | .floodEnd => Sys2Proof.Machine.execFloodEnd s
  | .iceWarm => Sys2Proof.Machine.execIceWarm s
  | .iceHoldEnd => Sys2Proof.Machine.execIceHoldEnd s
  | .fogEvaluation => Sys2Proof.Machine.execFogEvaluation s
  | .beamFogSet => Sys2Proof.Machine.execBeamFogSet s
  | .beamFogClear => Sys2Proof.Machine.execBeamFogClear s
  | .marginUnavailable => Sys2Proof.Machine.execMarginUnavailable s
  | .backupExpiry => Sys2Proof.Machine.execBackupExpiry s
  | .backupOn n => Sys2Proof.Machine.execBackupOn n s
  | .loopFallback n => Sys2Proof.Machine.execLoopFallback n s
  | .fadeStep => Sys2Proof.Machine.execFadeStep s
  | .pendingCueExpiry => Sys2Proof.Machine.execPendingCueExpiry s
  | .fadeEnd n => Sys2Proof.Machine.execFadeEnd n s
  | .capStep => Sys2Proof.Machine.execCapStep s
  | .cueInputSample board => Sys2Proof.Machine.execCueInputSample board s
  | .cueInputArm n board => Sys2Proof.Machine.execCueInputArm n board s
  | .acceptedEdge n board => Sys2Proof.Machine.execAcceptedEdge n board s
  | .generatorPeriodStart g => Sys2Proof.Machine.execGeneratorPeriodStart g s
  | .generatorCountReachesLevel g => Sys2Proof.Machine.execGeneratorCountReachesLevel g s
  | .strobeTimerExpiry n => Sys2Proof.Machine.execStrobeTimerExpiry n s
  | .validFrameOwnAddress f => Sys2Proof.Machine.execValidFrameOwnAddress f s
  | .readOnlyWindowTransaction code pdi board => Sys2Proof.Machine.execReadOnlyWindowTransaction code pdi board s
  | .pselSeenHigh => Sys2Proof.Machine.execPselSeenHigh s

end Sys2Proof.Machine
end

