-- ==== Sys2Proof/Safety.lean ====
section
/-!
DEFINITION. What counts as a legal state of each block: the ranges, orders and ties that the rules state for every moment, each the
invariant of a statement in Certificates/Slice0/Obligations.lean; and the effects that several commands share, the checks of START and
the writes of configuration windows, as predicates that the statements use. No meaning rests on one.
-/
namespace Sys2Proof.Machine

/-- A peer entry within the ranges of Table 2-2, at an address of 1 to 60 other than the node's own (R23, R24). -/
def EntryLegal (own : Nat) (e : PeerEntry) : Prop :=
  (1 ≤ e.address ∧ e.address ≤ 60 ∧ e.address ≠ own) ∧ e.period ≤ 7 ∧ e.lastSequence ≤ 15 ∧ e.age ≤ 65535 ∧
    (∀ c, e.cap = some c → c ≤ 1000) ∧ (∀ r, e.radiant = some r → r ≤ 4000) ∧ e.offer ≤ 6000 ∧ e.demands.length ≤ 4 ∧
    (∀ d ∈ e.demands, d.amount ≤ 4000) ∧ e.gapCount ≤ 255 ∧ (∀ l, e.lastCueSerial = some l → l ≤ 255) ∧
    e.splitCounter ≤ 3

/-- The Peer Table (R23): at most 31 legal entries in strictly ascending address order, and none outside LISTEN, RUN and MUTE. -/
def PeersLegal (s : State) : Prop :=
  s.peers.length ≤ 31 ∧ s.peers.Pairwise (fun a b => a.address < b.address) ∧
    (∀ e ∈ s.peers, EntryLegal s.cfg.node.address e) ∧ (s.operating = false → s.peers = [])

/-- A place of the queue holds a frame of its own kind at an attempt number of 0 to 15 (R40, R46). -/
def PlaceLegal (isKind : TxFrame → Bool) (x : Queued) : Prop := isKind x.frame = true ∧ x.attempt ≤ 15

/-- Whether a frame belongs in the STATUS place. -/
def ofStatus : TxFrame → Bool
  | .status _ => true
  | _ => false

/-- Whether a frame belongs in the FOG place. -/
def ofFog : TxFrame → Bool
  | .fog _ => true
  | _ => false

/-- Whether a frame belongs in the RECALL place. -/
def ofRecall : TxFrame → Bool
  | .recall => true
  | _ => false

/-- Whether a frame belongs in the replay place. -/
def ofReplay : TxFrame → Bool
  | .replay _ => true
  | _ => false

/-- The transmit queue (R46): each place holds its own kind. -/
def QueueLegal (q : TxQueue) : Prop :=
  (∀ x, q.statusPlace = some x → PlaceLegal ofStatus x) ∧ (∀ x, q.fogPlace = some x → PlaceLegal ofFog x) ∧
    (∀ x, q.recallPlace = some x → PlaceLegal ofRecall x) ∧ (∀ x, q.replayPlace = some x → PlaceLegal ofReplay x) ∧
    (∀ x ∈ q.cuePlaces, PlaceLegal TxFrame.isCue x)

/-- The Line Interface (R19, R46, R48, R53, R56, R123): the score and its degraded condition, the counters, at most two CUE frames
in the queue and the stage together, a frame in the stage exactly while an attempt is under way, and neither queue nor stage
holding anything outside LISTEN and RUN. -/
def LineLegal (s : State) : Prop :=
  (s.line.score ≤ 255 ∧ (s.line.degraded = true → 32 ≤ s.line.score) ∧ (s.line.degraded = false → s.line.score ≤ 95)) ∧
    (s.line.ownSequence ≤ 15 ∧ s.line.cueSerial ≤ 255) ∧ QueueLegal s.line.queue ∧ s.line.cuesHeld ≤ 2 ∧
    (∀ st, s.line.stage = some st → st.queued.attempt ≤ 15) ∧ (s.line.access = .sending ↔ s.line.stage.isSome = true) ∧
    (mayTransmitIn s.node.state = false → s.line.queue = .empty ∧ s.line.stage = none)

/-- The cause record (R159): a count of 0 to 255, and at least 1 where the flag is set. -/
def CausesLegal (s : State) : Prop :=
  ∀ i : Fin 12, (s.node.causes[i.val]).count ≤ 255 ∧ ((s.node.causes[i.val]).flag = true → 1 ≤ (s.node.causes[i.val]).count)

/-- The own grants (R104, R105): none above its loop's demand, and every one 0 in every node state other than RUN. -/
def GrantsLegal (s : State) : Prop :=
  ∀ n : Fin 4, (s.heat.loops[n.val]).grant ≤ (s.heat.loops[n.val]).demand ∧
    (s.node.state ≠ .run → (s.heat.loops[n.val]).grant = 0)

/-- Fog Guard (R78, R79, R83, R85 to R87): the margin state is never FOG, the own state is FOG exactly in beam fog, E is the
highest of the own state and the entries' states, the fan follows E, the flood in view is the own flood or an entry's, and
once configuration is applied the regeneration request and the curtail are those configured for E. -/
def FogLegal (s : State) : Prop :=
  s.fog.marginState ≠ .fog ∧ (s.fog.own = .fog ↔ s.fog.beamFog = true) ∧
    (fogCode s.fog.own ≤ fogCode s.fog.effectiveLevel ∧
      (∀ e ∈ s.peers, fogCode e.fog ≤ fogCode s.fog.effectiveLevel) ∧
      (s.fog.effectiveLevel = s.fog.own ∨ ∃ e ∈ s.peers, e.fog = s.fog.effectiveLevel)) ∧
    (s.fog.fanDemand = true ↔ 2 ≤ fogCode s.fog.effectiveLevel) ∧
    (s.fog.floodInView = true ↔ 0 < s.ice.floodTimer ∨ ∃ e ∈ s.peers, e.flood = true) ∧
    (s.node.state ≠ .unset →
      s.fog.regen = s.cfg.fog.regen s.fog.effectiveLevel ∧ s.fog.curtail = s.cfg.fog.curtail s.fog.effectiveLevel)

/-- The caps (R69, R124, R126, R127): the own cap at most 1000, and the target cap and the slewed cap between the light floor and
1000; both are 1000 in UNSET. -/
def CapsLegal (s : State) : Prop :=
  (s.cfg.node.lightFloor ≤ 1000 ∧ s.cfg.ice.floor ≤ 1000) ∧ s.ice.cap ≤ 1000 ∧
    (s.cfg.node.lightFloor ≤ s.light.targetCap ∧ s.light.targetCap ≤ 1000) ∧
    (s.cfg.node.lightFloor ≤ s.light.slewedCap ∧ s.light.slewedCap ≤ 1000) ∧
    (s.node.state = .unset → s.light.targetCap = 1000 ∧ s.light.slewedCap = 1000)

/-- The pending cue list (R120): at most four entries, none a STOP, in order of their remaining waits of 1 to 3000 fade steps, no two
with the same origin and serial. -/
def PendingLegal (s : State) : Prop :=
  s.light.pendingCues.length ≤ 4 ∧ s.light.pendingCues.Pairwise (fun p q => p.remaining ≤ q.remaining) ∧
    s.light.pendingCues.Pairwise (fun p q => p.origin ≠ q.origin ∨ p.serial ≠ q.serial) ∧
    ∀ p ∈ s.light.pendingCues, p.number ≠ 255 ∧ 1 ≤ p.remaining ∧ p.remaining ≤ 3000

/-- A generator (R132, R133, R135, R136): an OFF one holds its power-on values, and a high output stands before the count has
reached the active level of a RUNNING one. -/
def GeneratorLegal (g : Generator) : Prop :=
  (g.running = false → g = .powerOn) ∧ g.count ≤ 999 ∧ g.part ≤ 999 ∧ (g.output = true → g.running = true ∧ g.count < g.activeLevel)

/-- The twelve generators, and the strobe of each dimmer: an INACTIVE one stands in ON_TIME with its counter at 0 (R137, R139). -/
def GensLegal (s : State) : Prop :=
  (∀ n : Fin 4, GeneratorLegal s.gens.valves[n.val]) ∧
    ∀ n : Fin 8, GeneratorLegal (s.gens.dimmers[n.val]).gen ∧
      ((s.gens.dimmers[n.val]).strobe.active = false →
        (s.gens.dimmers[n.val]).strobe.phase = .onTime ∧ (s.gens.dimmers[n.val]).strobe.counter = 0)

/-- Every slot holds a level of 0 to 1000 (Table 8-1), and what the valve duties are formed from stands within each loop's design heat:
its demand and its held demand (R96 to R99), both 0 in UNSET. -/
def SlotsLegal (s : State) : Prop :=
  (∀ n : Fin 4, (s.gens.valves[n.val]).slotA ≤ 1000 ∧ (s.gens.valves[n.val]).slotB ≤ 1000) ∧
    (∀ n : Fin 8, (s.gens.dimmers[n.val]).gen.slotA ≤ 1000 ∧ (s.gens.dimmers[n.val]).gen.slotB ≤ 1000) ∧
    ∀ n : Fin 4, (s.heat.loops[n.val]).demand ≤ (s.cfg.loops[n.val]).design ∧
      (s.heat.loops[n.val]).held ≤ (s.cfg.loops[n.val]).design ∧
      (s.node.state = .unset → (s.heat.loops[n.val]).demand = 0 ∧ (s.heat.loops[n.val]).held = 0)

/-- A channel's live record (Table 1-9, R6, R9, R11, R13, R14): the ranges, a GOOD channel with a full ring and no step hold, and an
OUT_OF_RANGE one FAILED with an empty ring and runs of 0. -/
def ChannelLegal (c : ChannelLive) : Prop :=
  c.lastRaw ≤ 4095 ∧ c.ring.length ≤ 4 ∧ c.outRun ≤ 3 ∧ c.inRun ≤ 7 ∧ c.stepHold ≤ 10 ∧ c.zeroCounts.length ≤ 7 ∧
    (c.quality = .good → c.ring.length = 4 ∧ c.stepHold = 0) ∧
    (c.zeroState = .outOfRange → c.quality = .failed ∧ c.ring = [] ∧ c.outRun = 0 ∧ c.inRun = 0)

/-- The Measurement Unit: every channel's record legal, and in STARTING every channel still to be measured with an empty ring and runs
of 0 (R15). -/
def MeasLegal (s : State) : Prop :=
  (∀ n : Fin 12, ChannelLegal s.meas.channels[n.val]) ∧
    (s.node.state = .starting → ∀ n ∈ s.meas.zeroSchedule,
      (s.meas.channels[n.val]).ring = [] ∧ (s.meas.channels[n.val]).outRun = 0 ∧ (s.meas.channels[n.val]).inRun = 0)

/-! ### Configuration -/

/-- A channel's configuration fields in the ranges of Table 1-7. -/
def ChannelConfigLegal (c : ChannelConfig) : Prop :=
  (-200 ≤ c.trim ∧ c.trim ≤ 200) ∧ (1 ≤ c.fullScale ∧ c.fullScale ≤ 1000) ∧ c.stepLimit ≤ 1000

/-- A setpoint's range (Table 6-1). -/
def SetpointLegal (x : Int) : Prop := -500 ≤ x ∧ x ≤ 1000

/-- A loop's configuration fields in the ranges of Table 6-1. -/
def LoopConfigLegal (c : LoopConfig) : Prop :=
  c.design ≤ 4000 ∧ (SetpointLegal c.setIdle ∧ SetpointLegal c.setPlay ∧ SetpointLegal c.setInterval ∧
    SetpointLegal c.setShow ∧ SetpointLegal c.setNight) ∧ (10 ≤ c.band ∧ c.band ≤ 200) ∧ c.threshold ≤ 4000 ∧ c.hold ≤ 600 ∧
    c.fallback ≤ 4000

/-- A ceiling's range (Table 4-1). -/
def CeilingLegal (x : Int) : Prop := -200 ≤ x ∧ x ≤ 50

/-- Ice Watch's configuration fields in the ranges of Table 4-1. -/
def IceConfigLegal (c : IceConfig) : Prop :=
  (CeilingLegal c.ceilIdle ∧ CeilingLegal c.ceilPlay ∧ CeilingLegal c.ceilInterval ∧ CeilingLegal c.ceilShow ∧
    CeilingLegal c.ceilNight) ∧ (5 ≤ c.watch ∧ c.watch ≤ 50) ∧ c.sensitivity ≤ 100 ∧ (-100 ≤ c.upper ∧ c.upper ≤ 100) ∧
    (-100 ≤ c.lower ∧ c.lower ≤ 100) ∧ c.floor ≤ 1000 ∧ (5 ≤ c.floodRise ∧ c.floodRise ≤ 100) ∧
    (60 ≤ c.floodTime ∧ c.floodTime ≤ 900)

/-- Fog Guard's configuration fields in the ranges of Table 5-1. -/
def FogConfigLegal (c : FogConfig) : Prop :=
  (-200 ≤ c.watch ∧ c.watch ≤ 300) ∧ (-200 ≤ c.act ∧ c.act ≤ 300) ∧ (0 ≤ c.hysteresis ∧ c.hysteresis ≤ 100) ∧
    (0 ≤ c.allowance ∧ c.allowance ≤ 200) ∧ (0 ≤ c.beamThreshold ∧ c.beamThreshold ≤ 1000) ∧
    (0 ≤ c.beamHysteresis ∧ c.beamHysteresis ≤ 300) ∧ (2 ≤ c.beamHold ∧ c.beamHold ≤ 60) ∧
    (10 ≤ c.clearTime ∧ c.clearTime ≤ 600) ∧ (∀ e, c.regen e ≤ 1000) ∧ ∀ e, c.curtail e ≤ 1000

/-- A scene's levels and widths in the ranges of R113. -/
def SceneLegal (c : Scene) : Prop :=
  (∀ n : Fin 8, ∀ l, c.levels[n.val] = some l → l ≤ 1000) ∧ (1 ≤ c.onWidth ∧ c.onWidth ≤ 255) ∧
    (1 ≤ c.offWidth ∧ c.offWidth ≤ 255)

/-- Every configuration field in its range (R1, R16, R58, R73, R90, R91, R112 to R115, R152). -/
def ConfigLegal (c : Configuration) : Prop :=
  (c.node.address ≤ 60 ∧ c.node.period ≤ 7 ∧ c.node.lightFloor ≤ 1000) ∧
    (∀ n : Fin 12, ChannelConfigLegal c.channels[n.val]) ∧
    ((1000 ≤ c.source.capacity ∧ c.source.capacity ≤ 4500) ∧ c.source.fraction ≤ 1000) ∧
    (∀ n : Fin 4, LoopConfigLegal c.loops[n.val]) ∧ IceConfigLegal c.ice ∧ FogConfigLegal c.fog ∧
    (∀ n : Fin 8, c.coefficients[n.val] ≤ 500) ∧ (∀ n : Fin 32, SceneLegal c.scenes[n.val]) ∧
    (∀ n : Fin 64, (c.cueMap[n.val]).cue ≤ 255) ∧
    ∀ n : Fin 2, (c.cueInputs[n.val]).number ≤ 255 ∧ (c.cueInputs[n.val]).wait ≤ 600 ∧ (c.cueInputs[n.val]).fade ≤ 600

/-! ### Moves -/

/-- The changes of node state a command may make (Table 10-1), from a to b; a STARTING with no zero measurement ends at the entry
itself (R156). -/
def mayMove (c : Instr) (a b : NodeState) : Prop :=
  match c with
  | .powerOn _ => b = .unset
  | .resetPinAssertion => b = .unset
  | .start => a = .unset ∧ (b = .starting ∨ b = .listen)
  | .restart => operatingIn a = true ∧ (b = .starting ∨ b = .listen)
  | .zeroReferenceConversion _ _ => a = .starting ∧ b = .listen
  | .zeroMeasurementComplete _ _ => a = .starting ∧ b = .listen
  | .statusPeriodExpiry => a = .listen ∧ b = .run
  | .phaseSplit _ => a = .listen ∧ b = .run
  | .enterRun => a = .listen ∧ b = .run
  | .statusReceived _ => operatingIn a = true ∧ b = .mute .clash
  | .fogReceived _ => operatingIn a = true ∧ b = .mute .clash
  | .cueReceived _ => operatingIn a = true ∧ b = .mute .clash
  | .replayReceived _ => operatingIn a = true ∧ b = .mute .clash
  | .recallReceived _ => operatingIn a = true ∧ b = .mute .clash
  | .validFrameOwnAddress _ => operatingIn a = true ∧ b = .mute .clash
  | .stuckLine => mayTransmitIn a = true ∧ b = .mute .stuck
  | .stuckLineEnd => a = .mute .stuck ∧ b = .listen
  | _ => False

/-- A transaction that changed nothing but the port, with its result; the port is back in PORT_IDLE, and the scene pointer and the
captured cause set stand. -/
def PortOnly (s t : State) (r : PortResult) : Prop :=
  ∃ p, t = s.setPort p ∧ p.lastResult = r ∧ p.scenePointer = s.port.scenePointer ∧ p.capturedSet = s.port.capturedSet ∧
    p.waitHigh = s.port.waitHigh ∧ p.state = .portIdle

/-! ### The checks of START -/

/-- Some channel carries a binding. -/
def Carried (cfg : Configuration) (b : Binding) : Prop := ∃ n : Fin 12, (cfg.channels[n.val]).binding = some b

/-- The case of Table 10-2 that start fault f names holds with index i, whatever other cases hold beside it (R2, R58, R73, R90, R92,
R145, R155). -/
def StartCase (cfg : Configuration) (f : StartFault) (i : Nat) : Prop :=
  match f with
  | .noFault => False
  | .address => i = 0 ∧ cfg.node.address = 0
  | .bindingRepeated => ∃ (n m : Fin 12) (b : Binding), i = n.val ∧ m < n ∧ (cfg.channels[n.val]).binding = some b ∧
      (cfg.channels[m.val]).binding = some b
  | .bindingKind => ∃ (n : Fin 12) (b : Binding), i = n.val ∧ (cfg.channels[n.val]).binding = some b ∧
      (cfg.channels[n.val]).kind ≠ .unused ∧ (cfg.channels[n.val]).kind ≠ requiredKind b
  | .bindingUnused => ∃ n : Fin 12, i = n.val ∧ (cfg.channels[n.val]).kind = .unused ∧ (cfg.channels[n.val]).binding ≠ none
  | .sourceBinding => i = 0 ∧ (Carried cfg .sourceSupplyT ∨ Carried cfg .sourceReturnT ∨ Carried cfg .sourceFlow) ∧
      ¬(Carried cfg .sourceSupplyT ∧ Carried cfg .sourceReturnT ∧ Carried cfg .sourceFlow)
  | .loopTemperature => ∃ (n : Fin 4) (c : HeatClass), i = n.val ∧ (cfg.loops[n.val]).cls = some c ∧ c ≠ .dry ∧
      ¬Carried cfg (.loopT n)
  | .valveGenerator => ∃ n m : Fin 4, i = n.val ∧ m < n ∧ (cfg.loops[n.val]).cls ≠ none ∧ (cfg.loops[m.val]).cls ≠ none ∧
      (cfg.loops[m.val]).valve = (cfg.loops[n.val]).valve
  | .backupPin => ∃ (n : Fin 4) (p : Fin 24), i = n.val ∧ (cfg.loops[n.val]).cls ≠ none ∧
      (cfg.loops[n.val]).backupPin = some p ∧ (cfg.pins[p.val]).function ≠ .backup n
  | .pinFunction => ∃ n m : Fin 24, i = n.val ∧ m < n ∧ (cfg.pins[m.val]).function = (cfg.pins[n.val]).function ∧
      (cfg.pins[n.val]).function ≠ .outHigh ∧ (cfg.pins[n.val]).function ≠ .outLow ∧ (cfg.pins[n.val]).function ≠ .input
  | .iceMargin => i = 0 ∧ cfg.ice.upper ≤ cfg.ice.lower
  | .fogThreshold => i = 0 ∧ cfg.fog.watch ≤ cfg.fog.act

/-- The pass of START in which a case of Table 10-2 is tested: the channel cases share one, the loop cases another (R155). -/
def startPass : StartFault → Nat
  | .noFault => 0
  | .address => 0
  | .bindingRepeated => 1
  | .bindingKind => 1
  | .bindingUnused => 1
  | .sourceBinding => 2
  | .loopTemperature => 3
  | .valveGenerator => 3
  | .backupPin => 3
  | .pinFunction => 4
  | .iceMargin => 5
  | .fogThreshold => 6

/-- Case g at index j is tested before case f at index i (R155): in an earlier pass; in one pass at a lower index; at one index in the
order of Table 10-2, which is that of the codes. -/
def TestedBefore (g : StartFault) (j : Nat) (f : StartFault) (i : Nat) : Prop :=
  startPass g < startPass f ∨
    startPass g = startPass f ∧ (j < i ∨ j = i ∧ startFaultCode g < startFaultCode f)

/-! ### Writes of configuration windows -/

/-- The field of a window's data that begins `start` bits behind the first data bit, in plain binary; the first eight PDI bits of a
transaction are not data (R165, R171). -/
def sentField (pdi : Bits) (start width : Nat) : Nat := natOfBits ((pdi.drop (8 + start)).take width)

/-- A 16-bit field in two's complement (R171). -/
def sentSigned (pdi : Bits) (start : Nat) : Int :=
  if sentField pdi start 16 < 32768 then (sentField pdi start 16 : Int) else (sentField pdi start 16 : Int) - 65536

/-- A field of one bit, 1 for set (R171). -/
def sentFlag (pdi : Bits) (start : Nat) : Bool := sentField pdi start 1 == 1

/-- The phases by their codes (Table 1-6). -/
def phaseList : List Phase := [.idle, .play, .interval, .showPhase, .night]

/-- The channel kinds by their codes (Table 12-12). -/
def kindList : List ChannelKind := [.temp, .humid, .flow, .beam, .unused]

/-- The bindings by their codes, 0 to 11 (Table 12-12). -/
def bindingList : List Binding :=
  [.iceSurface, .iceLayerAir, .bowlAirT, .bowlAirRh, .sourceSupplyT, .sourceReturnT, .sourceFlow, .loopT 0, .loopT 1, .loopT 2,
    .loopT 3, .fogBeam]

/-- The loop classes by their codes, NONE first (Table 12-8). -/
def classList : List (Option HeatClass) := [none, some .heave, some .dry, some .stand, some .melt]

/-- The pin functions by kind and index (Table 12-18). -/
def functionLists : List (List PinFunction) :=
  [(List.finRange 8).map .dimmer, (List.finRange 4).map .valve, (List.finRange 4).map .backup, (List.finRange 2).map .cueIn,
    [.fan], [.attention], [.outHigh], [.outLow], [.input]]

/-- The NODE fields as sent (Table 12-7); none where the phase is not listed. -/
def NodeConfig.sent (pdi : Bits) : Option NodeConfig :=
  (phaseList[sentField pdi 12 4]?).map fun phase =>
    { address := sentField pdi 0 8, period := sentField pdi 8 4, mask := BitVec.ofNat 12 (sentField pdi 16 16),
      lightFloor := sentField pdi 32 16, startPhase := phase }

/-- The NODE fields within their ranges (Table 12-7). -/
def NodeConfig.limited (c : NodeConfig) : NodeConfig :=
  { c with address := min 60 c.address, period := min 7 c.period, lightFloor := min 1000 c.lightFloor }

/-- The MEASURE configuration fields as sent (Table 12-12); none where the kind or the binding is not listed. -/
def ChannelConfig.sent (pdi : Bits) : Option ChannelConfig :=
  (kindList[sentField pdi 0 4]?).bind fun kind =>
    (if sentField pdi 4 4 = 15 then some none else (bindingList[sentField pdi 4 4]?).map some).map fun binding =>
      { kind := kind, binding := binding, trim := sentSigned pdi 8, autoZero := sentFlag pdi 24, fullScale := sentField pdi 28 10,
        stepLimit := sentField pdi 38 10 }

/-- The MEASURE fields within their ranges (Table 12-12). -/
def ChannelConfig.limited (c : ChannelConfig) : ChannelConfig :=
  { c with trim := max (-200) (min 200 c.trim), fullScale := max 1 (min 1000 c.fullScale), stepLimit := min 1000 c.stepLimit }

/-- The SOURCE fields as sent (Table 12-13). -/
def SourceConfig.sent (pdi : Bits) : SourceConfig := { capacity := sentField pdi 0 16, fraction := sentField pdi 16 16 }

/-- The SOURCE fields within their ranges (Table 12-13). -/
def SourceConfig.limited (c : SourceConfig) : SourceConfig :=
  { capacity := max 1000 (min 4500 c.capacity), fraction := min 1000 c.fraction }

/-- The LOOP fields as sent (Table 12-8); none where the class, the valve generator or the backup pin is not listed. -/
def LoopConfig.sent (pdi : Bits) : Option LoopConfig :=
  (classList[sentField pdi 0 4]?).bind fun cls =>
    ((List.finRange 4)[sentField pdi 4 4]?).bind fun valve =>
      (if sentField pdi 8 8 = 31 then some none else ((List.finRange 24)[sentField pdi 8 8]?).map some).map fun pin =>
        { cls := cls, valve := valve, backupPin := pin, band := sentField pdi 16 16, design := sentField pdi 32 16,
          setIdle := sentSigned pdi 48, setPlay := sentSigned pdi 64, setInterval := sentSigned pdi 80,
          setShow := sentSigned pdi 96, setNight := sentSigned pdi 112, threshold := sentField pdi 128 16,
          hold := sentField pdi 144 16, fallback := sentField pdi 160 16 }

/-- The LOOP fields within their ranges (Table 12-8). -/
def LoopConfig.limited (c : LoopConfig) : LoopConfig :=
  { c with
    band := max 10 (min 200 c.band)
    design := min 4000 c.design
    setIdle := max (-500) (min 1000 c.setIdle)
    setPlay := max (-500) (min 1000 c.setPlay)
    setInterval := max (-500) (min 1000 c.setInterval)
    setShow := max (-500) (min 1000 c.setShow)
    setNight := max (-500) (min 1000 c.setNight)
    threshold := min 4000 c.threshold
    hold := min 600 c.hold
    fallback := min 4000 c.fallback }

/-- The ICE fields as sent (Table 12-14). -/
def IceConfig.sent (pdi : Bits) : IceConfig :=
  { ceilIdle := sentSigned pdi 0, ceilPlay := sentSigned pdi 16, ceilInterval := sentSigned pdi 32, ceilShow := sentSigned pdi 48,
    ceilNight := sentSigned pdi 64, watch := sentField pdi 80 16, sensitivity := sentField pdi 96 16, upper := sentSigned pdi 112,
    lower := sentSigned pdi 128, floor := sentField pdi 144 16, floodRise := sentField pdi 160 16, floodTime := sentField pdi 176 16 }

/-- The ICE fields within their ranges (Table 12-14). -/
def IceConfig.limited (c : IceConfig) : IceConfig :=
  { ceilIdle := max (-200) (min 50 c.ceilIdle)
    ceilPlay := max (-200) (min 50 c.ceilPlay)
    ceilInterval := max (-200) (min 50 c.ceilInterval)
    ceilShow := max (-200) (min 50 c.ceilShow)
    ceilNight := max (-200) (min 50 c.ceilNight)
    watch := max 5 (min 50 c.watch)
    sensitivity := min 100 c.sensitivity
    upper := max (-100) (min 100 c.upper)
    lower := max (-100) (min 100 c.lower)
    floor := min 1000 c.floor
    floodRise := max 5 (min 100 c.floodRise)
    floodTime := max 60 (min 900 c.floodTime) }

/-- The FOG fields as sent (Table 12-15). -/
def FogConfig.sent (pdi : Bits) : FogConfig :=
  { watch := sentSigned pdi 0, act := sentSigned pdi 16, hysteresis := sentField pdi 32 16, allowance := sentField pdi 48 16,
    beamThreshold := sentField pdi 64 16, beamHysteresis := sentField pdi 80 16, beamHold := sentField pdi 96 16,
    clearTime := sentField pdi 112 16, regenClear := sentField pdi 128 16, regenWatch := sentField pdi 144 16,
    regenAct := sentField pdi 160 16, regenFog := sentField pdi 176 16, curtailClear := sentField pdi 192 16,
    curtailWatch := sentField pdi 208 16, curtailAct := sentField pdi 224 16, curtailFog := sentField pdi 240 16 }

/-- The FOG fields within their ranges (Table 12-15). -/
def FogConfig.limited (c : FogConfig) : FogConfig :=
  { watch := max (-200) (min 300 c.watch)
    act := max (-200) (min 300 c.act)
    hysteresis := min 100 c.hysteresis
    allowance := min 200 c.allowance
    beamThreshold := min 1000 c.beamThreshold
    beamHysteresis := min 300 c.beamHysteresis
    beamHold := max 2 (min 60 c.beamHold)
    clearTime := max 10 (min 600 c.clearTime)
    regenClear := min 1000 c.regenClear
    regenWatch := min 1000 c.regenWatch
    regenAct := min 1000 c.regenAct
    regenFog := min 1000 c.regenFog
    curtailClear := min 1000 c.curtailClear
    curtailWatch := min 1000 c.curtailWatch
    curtailAct := min 1000 c.curtailAct
    curtailFog := min 1000 c.curtailFog }

/-- Record j of the four of CUEMAP as sent (Table 12-17); none where the scene number is not listed. -/
def CueMapEntry.sent (pdi : Bits) (j : Nat) : Option CueMapEntry :=
  ((List.finRange 32)[sentField pdi (16 * j + 8) 8]?).map fun k => { cue := sentField pdi (16 * j) 8, scene := k }

/-- Record j of the four of PINS as sent (Table 12-18); none where the function kind or its index is not listed. -/
def PinConfig.sent (pdi : Bits) (j : Nat) : Option PinConfig :=
  ((functionLists.getD (sentField pdi (16 * j) 4) [])[sentField pdi (16 * j + 4) 4]?).map fun f =>
    { function := f
      drive := if sentFlag pdi (16 * j + 8) then .openDrain else .pushPull
      pullUp := sentFlag pdi (16 * j + 9)
      polarity := if sentFlag pdi (16 * j + 10) then .inverted else .normal }

/-- The CUEIN fields as sent (Table 12-19); none where the phase code is 5 or 6. -/
def CueInputConfig.sent (pdi : Bits) : Option CueInputConfig :=
  (if sentField pdi 8 3 = 7 then some none else (phaseList[sentField pdi 8 3]?).map some).map fun phase =>
    { number := sentField pdi 0 8, phase := phase, wait := sentField pdi 16 16, fade := sentField pdi 32 16 }

/-- The CUEIN fields within their ranges (Table 12-19). -/
def CueInputConfig.limited (c : CueInputConfig) : CueInputConfig := { c with wait := min 600 c.wait, fade := min 600 c.fade }

/-- A write taken in UNSET (R167): refused where a field is not listed; otherwise the record is written within its ranges, every other
record stands, and the result is CLAMPED exactly where that changed a field that was sent. -/
def RecordJudged {α : Type} (s t : State) (sent : Option α) (limited : α → α) (put : α → Configuration) : Prop :=
  (sent = none → PortOnly s t .refusedValue) ∧
  ∀ x, sent = some x →
    (limited x = x → PortOnly (s.setCfg (put x)) t .applied) ∧ (limited x ≠ x → PortOnly (s.setCfg (put (limited x))) t .clamped)

/-- The four records of a CUEMAP or PINS window: refused together where one of them is not listed, and none of them is clamped. -/
def FourJudged {α : Type} (s t : State) (sent : Nat → Option α) (put : (Fin 4 → α) → Configuration) : Prop :=
  ((∃ j : Fin 4, sent j.val = none) → PortOnly s t .refusedValue) ∧
  ∀ x : Fin 4 → α, (∀ j : Fin 4, sent j.val = some (x j)) → PortOnly (s.setCfg (put x)) t .applied

/-- What an exact-length write of each configuration window but SCENE does in UNSET (R167, Tables 12-7, 12-8 and 12-12 to 12-19). -/
def WriteJudged (s t : State) (pdi : Bits) : Window → Prop
  | .node => RecordJudged s t (NodeConfig.sent pdi) NodeConfig.limited fun x => { s.cfg with node := x }
  | .measure n => RecordJudged s t (ChannelConfig.sent pdi) ChannelConfig.limited fun x =>
      { s.cfg with channels := setAt s.cfg.channels n x }
  | .source => RecordJudged s t (some (SourceConfig.sent pdi)) SourceConfig.limited fun x => { s.cfg with source := x }
  | .loop n => RecordJudged s t (LoopConfig.sent pdi) LoopConfig.limited fun x =>
      { s.cfg with loops := setAt s.cfg.loops n x }
  | .ice => RecordJudged s t (some (IceConfig.sent pdi)) IceConfig.limited fun x => { s.cfg with ice := x }
  | .fog => RecordJudged s t (some (FogConfig.sent pdi)) FogConfig.limited fun x => { s.cfg with fog := x }
  | .light n => RecordJudged s t (some (sentField pdi 0 16)) (min 500) fun x =>
      { s.cfg with coefficients := setAt s.cfg.coefficients n x }
  | .cueMap i => FourJudged s t (CueMapEntry.sent pdi) fun x =>
      { s.cfg with cueMap := Vector.ofFn fun k : Fin 64 =>
          if k.val / 4 = i.val then x (Fin.ofNat 4 k.val) else s.cfg.cueMap[k.val] }
  | .pins i => FourJudged s t (PinConfig.sent pdi) fun x =>
      { s.cfg with pins := Vector.ofFn fun k : Fin 24 =>
          if k.val / 4 = i.val then x (Fin.ofNat 4 k.val) else s.cfg.pins[k.val] }
  | .cueIn n => RecordJudged s t (CueInputConfig.sent pdi) CueInputConfig.limited fun x =>
      { s.cfg with cueInputs := setAt s.cfg.cueInputs n x }
  | _ => True

/-! ### Effects that several commands share -/

/-- Cause i raised k times and no other cause touched (R159): its flag set, its count up by k, staying at 255. -/
def CausesAfter (s t : State) (i : Fin 12) (k : Nat) : Prop :=
  (∀ j : Fin 12, j ≠ i → t.node.causes[j.val] = s.node.causes[j.val]) ∧
    t.node.causes[i.val] =
      if k = 0 then s.node.causes[i.val] else { flag := true, count := min 255 ((s.node.causes[i.val]).count + k) }

/-- The error score raised by 8 (R53): it saturates at 255; reaching 96 with degraded clear sets degraded and raises
LINE_DEGRADED, cause 2. -/
def ScoredBad (s t : State) : Prop :=
  t.line.score = min 255 (s.line.score + 8) ∧
    t.line.degraded = (s.line.degraded || decide (96 ≤ min 255 (s.line.score + 8))) ∧
    CausesAfter s t 2 (if s.line.degraded = false ∧ 96 ≤ min 255 (s.line.score + 8) then 1 else 0)

/-- The error score lowered by 1 (R53): not below 0; falling below 32 clears degraded. -/
def ScoredGood (s t : State) : Prop :=
  t.line.score = s.line.score - 1 ∧ t.line.degraded = (s.line.degraded && decide (32 ≤ s.line.score - 1))

/-- One lighting channel under a take of a scene with a fade (R113, R121, R137, R139): a KEEP channel stands; any other starts
its fade from its output level and its generator's strobe is begun or ended by the channel's mark. -/
def ChannelTaken (s t : State) (sc : Scene) (fade : Nat) (n : Fin 8) : Prop :=
  (sc.levels[n.val] = none →
    t.light.fades[n.val] = s.light.fades[n.val] ∧ t.gens.dimmers[n.val] = s.gens.dimmers[n.val]) ∧
  ∀ level, sc.levels[n.val] = some level →
    t.light.fades[n.val] =
      { state := .fading, start := (s.light.fades[n.val]).output, target := level, step := 0, length := fade * 5,
        level := (s.light.fades[n.val]).level, output := (s.light.fades[n.val]).output } ∧
    (t.gens.dimmers[n.val]).gen = (s.gens.dimmers[n.val]).gen ∧
    (t.gens.dimmers[n.val]).strobe =
      if sc.marks[n.val] then
        { active := true, phase := .onTime, onWidth := sc.onWidth, offWidth := sc.offWidth, counter := sc.onWidth }
      else
        { active := false, phase := .onTime, onWidth := (s.gens.dimmers[n.val]).strobe.onWidth,
          offWidth := (s.gens.dimmers[n.val]).strobe.offWidth, counter := 0 }

/-- What taking a cue or STOP does to the Lighting Engine and the strobes (R114, R116, R121, R122, R129): the phase, the current
cue record and the LISTEN take marker; for STOP the list emptied and every fade frozen at its output level; for any other cue the
scene of the first cue map entry that holds its number, where one does. -/
def CueTaken (s t : State) (c : CueRecord) : Prop :=
  t.light.current = some c ∧ t.light.phase = c.phase.getD s.light.phase ∧
    t.light.takeMarker = (s.light.takeMarker || decide (s.node.state = .listen)) ∧
    t.light.targetCap = s.light.targetCap ∧ t.light.slewedCap = s.light.slewedCap ∧ t.light.radiant = s.light.radiant ∧
    t.gens.valves = s.gens.valves ∧
    (c.number = 255 → t.light.pendingCues = [] ∧ t.gens = s.gens ∧
      ∀ n : Fin 8, t.light.fades[n.val] =
        { s.light.fades[n.val] with state := .held, level := (s.light.fades[n.val]).output }) ∧
    (c.number ≠ 255 → t.light.pendingCues = s.light.pendingCues ∧
      ((∀ i : Fin 64, (s.cfg.cueMap[i.val]).cue ≠ c.number) → t.light.fades = s.light.fades ∧ t.gens = s.gens) ∧
      ∀ i : Fin 64, (s.cfg.cueMap[i.val]).cue = c.number →
        (∀ j : Fin 64, j < i → (s.cfg.cueMap[j.val]).cue ≠ c.number) →
        ∀ n : Fin 8, ChannelTaken s t s.cfg.scenes[(s.cfg.cueMap[i.val]).scene.val] c.fade n)

/-- A list of cues taken one after another, touching nothing but the Lighting Engine and the generators (R120, R121). -/
def TakenInOrder : List CueRecord → State → State → Prop
  | [], s, t => t = s
  | c :: rest, s, t =>
    ∃ u, CueTaken s u c ∧ u = (s.setLight u.light).setGens u.gens ∧ TakenInOrder rest u t

/-- The channels' part of a fade step (R124, R125): each running fade advances a step or ends, each output level is the fade level
under the slewed cap, it is written to the dimmer generator, and the own radiant is formed. -/
def FadesStepped (s t : State) : Prop :=
  (∀ n : Fin 8, ∀ f, s.light.fades[n.val] = f →
    (f.state ≠ .fading → t.light.fades[n.val] = { f with output := min f.level s.light.slewedCap }) ∧
    (f.state = .fading → f.length ≤ f.step + 1 →
      t.light.fades[n.val] =
        { f with state := .held, step := f.step + 1, level := f.target, output := min f.target s.light.slewedCap }) ∧
    (f.state = .fading → f.step + 1 < f.length →
      ∃ level : Nat, (level : Int) = f.start + Int.tdiv (((f.target : Int) - f.start) * (f.step + 1)) f.length ∧
        t.light.fades[n.val] =
          { f with step := f.step + 1, level := level, output := min level s.light.slewedCap })) ∧
  (∀ n : Fin 8, t.gens.dimmers[n.val] =
    { s.gens.dimmers[n.val] with gen := (s.gens.dimmers[n.val]).gen.write (t.light.fades[n.val]).output }) ∧
  t.light.radiant =
    ((List.finRange 8).map fun n => (t.light.fades[n.val]).output * s.cfg.coefficients[n.val] / 1000).sum

/-- A cue with a wait offered to the pending cue list (R120): a full list refuses it; with room left it enters behind every entry of no
greater remaining wait, but for one of the same origin and serial as an entry, which is ignored (log entry 26). Nothing else of the
lighting changes. -/
def PendingOffered (s t : State) (c : Cue) : Prop :=
  (4 ≤ s.light.pendingCues.length → t.light = s.light) ∧
  (s.light.pendingCues.length < 4 →
    ((∃ p ∈ s.light.pendingCues, p.origin = c.origin ∧ p.serial = c.serial) → t.light = s.light) ∧
    ((∀ p ∈ s.light.pendingCues, p.origin ≠ c.origin ∨ p.serial ≠ c.serial) →
      ∃ xs ys, s.light.pendingCues = xs ++ ys ∧
        t.light = { s.light with
          pendingCues := xs ++ PendingCue.mk c.origin c.serial c.number c.phase c.fade (c.wait * 5) :: ys } ∧
        (∀ p ∈ xs, p.remaining ≤ c.wait * 5) ∧ ∀ p, ys.head? = some p → c.wait * 5 < p.remaining))

/-- The cue that cue input n originates next (R115, R123). -/
def inputCue (s : State) (n : Fin 2) : Cue :=
  { origin := s.cfg.node.address, serial := (s.line.cueSerial + 1) % 256, number := (s.cfg.cueInputs[n.val]).number,
    phase := (s.cfg.cueInputs[n.val]).phase, wait := (s.cfg.cueInputs[n.val]).wait, fade := (s.cfg.cueInputs[n.val]).fade }

/-- What originating a cue does, and that it does nothing else (R46, R120 to R123): the serial advances; STOP and a wait of 0 are taken,
any other wait is offered to the pending list; in LISTEN and RUN the frame enters the queue where fewer than two CUE frames are held;
a full list and a third CUE raise CUE_DROPPED once each. -/
def CueOriginated (s t : State) (c : Cue) : Prop :=
  t = ((((s.setLine { s.line with cueSerial := c.serial, queue := t.line.queue }).setLight t.light).setGens t.gens).setNode
    { s.node with causes := t.node.causes }) ∧
  (c.number = 255 ∨ c.wait = 0 → CueTaken s t (recordOfCue c)) ∧
  (c.number ≠ 255 → 0 < c.wait → t.gens = s.gens ∧ PendingOffered s t c) ∧
  (mayTransmitIn s.node.state = true → s.line.cuesHeld < 2 →
    t.line.queue = { s.line.queue with cuePlaces := s.line.queue.cuePlaces ++ [{ frame := .cue c, attempt := 0 }] }) ∧
  (mayTransmitIn s.node.state = false ∨ 2 ≤ s.line.cuesHeld → t.line.queue = s.line.queue) ∧
  CausesAfter s t 4
    ((if c.number ≠ 255 ∧ 0 < c.wait ∧ 4 ≤ s.light.pendingCues.length then 1 else 0) +
      if mayTransmitIn s.node.state = true ∧ 2 ≤ s.line.cuesHeld then 1 else 0)

/-- Fog Guard's two conditions as the own state and the entries give them, with what follows E (R78, R85 to R87); the rest of Fog Guard
stands. -/
def FogRederived (s t : State) : Prop :=
  t.fog = { s.fog with
    floodInView := t.fog.floodInView, effectiveLevel := t.fog.effectiveLevel, regen := t.fog.regen, curtail := t.fog.curtail,
    fanDemand := t.fog.fanDemand } ∧
  (t.fog.floodInView = true ↔ 0 < s.ice.floodTimer ∨ ∃ e ∈ t.peers, e.flood = true) ∧
  fogCode s.fog.own ≤ fogCode t.fog.effectiveLevel ∧
  (∀ e ∈ t.peers, fogCode e.fog ≤ fogCode t.fog.effectiveLevel) ∧
  (t.fog.effectiveLevel = s.fog.own ∨ ∃ e ∈ t.peers, e.fog = t.fog.effectiveLevel) ∧
  t.fog.regen = s.cfg.fog.regen t.fog.effectiveLevel ∧ t.fog.curtail = s.cfg.fog.curtail t.fog.effectiveLevel ∧
  (t.fog.fanDemand = true ↔ 2 ≤ fogCode t.fog.effectiveLevel)

/-- What a transaction leaves of the port's lines and stage (R162 to R165): PDO was low at each of the eight code bits and then showed the
bits of `stage` as SHIFT began, followed by the PDI bits, and what of that chain has not left still stands in the stage. -/
def Shifted (p : SetupPort) (stage pdi : Bits) : Prop :=
  p.state = .portIdle ∧ p.count = pdi.length ∧ p.stage = (stage ++ pdi).drop pdi.length ∧
    p.pdo = List.replicate 8 (some false) ++ ((stage ++ pdi).take pdi.length).map some

/-- The head of the transmit queue and the queue without it, in the head order of R47. -/
def HeadOf (q q' : TxQueue) (x : Queued) : Prop :=
  (q.fogPlace = some x ∧ q' = { q with fogPlace := none }) ∨
  (q.fogPlace = none ∧ ∃ rest, q.cuePlaces = x :: rest ∧ q' = { q with cuePlaces := rest }) ∨
  (q.fogPlace = none ∧ q.cuePlaces = [] ∧ q.recallPlace = some x ∧ q' = { q with recallPlace := none }) ∨
  (q.fogPlace = none ∧ q.cuePlaces = [] ∧ q.recallPlace = none ∧ q.replayPlace = some x ∧
    q' = { q with replayPlace := none }) ∨
  (q.fogPlace = none ∧ q.cuePlaces = [] ∧ q.recallPlace = none ∧ q.replayPlace = none ∧ q.statusPlace = some x ∧
    q' = { q with statusPlace := none })

/-- A frame returned to the queue after a failed attempt (R48): a STATUS or a FOG only where its place is free, a CUE ahead of any
that waits, a RECALL or a replay to its free place. -/
def ReturnedTo (q q' : TxQueue) (x : Queued) : Prop :=
  match x.frame with
  | .status _ => (q.statusPlace = none → q' = { q with statusPlace := some x }) ∧ (q.statusPlace ≠ none → q' = q)
  | .fog _ => (q.fogPlace = none → q' = { q with fogPlace := some x }) ∧ (q.fogPlace ≠ none → q' = q)
  | .cue _ => q' = { q with cuePlaces := x :: q.cuePlaces }
  | .recall => q.recallPlace = none → q' = { q with recallPlace := some x }
  | .replay _ => q.replayPlace = none → q' = { q with replayPlace := some x }

/-- The configured loops' duties written to their valve generators (R92, R106, R134): a generator that exactly one configured loop
names receives that loop's duty; one that none names stands. -/
def ValvesWritten (s t : State) (duty : Fin 4 → Nat) : Prop :=
  ∀ v : Fin 4,
    ((∀ n : Fin 4, (s.cfg.loops[n.val]).cls = none ∨ (s.cfg.loops[n.val]).valve ≠ v) →
      t.gens.valves[v.val] = s.gens.valves[v.val]) ∧
    ∀ n : Fin 4, (s.cfg.loops[n.val]).cls ≠ none → (s.cfg.loops[n.val]).valve = v →
      (∀ m : Fin 4, m ≠ n → (s.cfg.loops[m.val]).cls = none ∨ (s.cfg.loops[m.val]).valve ≠ v) →
      t.gens.valves[v.val] = (s.gens.valves[v.val]).write (duty n)

/-- An entry into MUTE from LISTEN or RUN (R18, R56, R105): the queue and the stage are emptied without a cause, the own grants and
the configured loops' duties are 0, and an expiry count of LISTEN is discarded. -/
def MuteEntered (s t : State) (k : MuteKind) : Prop :=
  t.node.state = .mute k ∧ t.line.queue = .empty ∧ t.line.stage = none ∧ t.line.ownSequence = s.line.ownSequence ∧
    t.line.cueSerial = s.line.cueSerial ∧ t.comp.first = s.comp.first ∧
    (s.node.state = .listen → t.comp.expiryCount = 0) ∧
    (∀ n : Fin 4, (t.heat.loops[n.val]).grant = 0 ∧ (t.heat.loops[n.val]).demand = (s.heat.loops[n.val]).demand ∧
      (t.heat.loops[n.val]).backup = (s.heat.loops[n.val]).backup ∧
      ((s.cfg.loops[n.val]).cls ≠ none → (t.heat.loops[n.val]).duty = 0)) ∧
    ValvesWritten s t (fun _ => 0)

/-- What no entry into MUTE and no entry into LISTEN from it touches: configuration, measurement, peers, Ice Watch, Fog Guard, the
dimmer generators, the pins and the port. -/
def RestStands (s t : State) : Prop :=
  t.cfg = s.cfg ∧ t.meas = s.meas ∧ t.peers = s.peers ∧ t.ice = s.ice ∧ t.fog = s.fog ∧ t.gens.dimmers = s.gens.dimmers ∧
    t.pins = s.pins ∧ t.port = s.port ∧ t.resetHeld = s.resetHeld ∧ t.freeCount = s.freeCount

/-- The channels a start measures the zero of (R5). -/
def MeasuresZero (cfg : Configuration) (n : Fin 12) : Prop :=
  (cfg.channels[n.val]).kind ≠ .unused ∧ (cfg.channels[n.val]).autoZero = true

/-- A channel's live record at an entry into STARTING (R5, R15, Table 1-9): an UNUSED channel keeps its own. -/
def ChannelStarted (k : ChannelConfig) (c c' : ChannelLive) : Prop :=
  (k.kind = .unused → c' = c) ∧
  (k.kind ≠ .unused → c' = { c with
    ring := [], quality := .doubt, outRun := 0, inRun := 0, stepHold := 0, zeroCorrection := 0
    zeroState := if k.autoZero then .measuring else .notTaken
    zeroCounts := [] })

/-- What every entry into STARTING does (R156), by START or by RESTART, with the entry into LISTEN that follows at once where no channel
measures its zero: every block's entry action (R5, R7, R15, R18, R20, R23, R36, R57, R71, R88, R110, R128, R130, R148, R150, R159),
with what each block keeps. The phase, the fades, the generators, the node record and the port are left to the two commands; that
regeneration request and curtail take the values configured for CLEAR is log entry 13. -/
def StartingEntered (s t : State) : Prop :=
  ((∃ n, MeasuresZero s.cfg n) → t.node.state = .starting ∧ t.line.queue = .empty ∧ t.meas.scanSchedule = [] ∧
    ∀ n : Fin 2, t.pins.cueInputs[n.val] = .stopped) ∧
  ((∀ n, ¬MeasuresZero s.cfg n) → t.node.state = .listen ∧
    t.line.queue = { TxQueue.empty with recallPlace := some { frame := .recall, attempt := 0 } } ∧
    t.meas.scanSchedule.Pairwise (· < ·) ∧
    (∀ n : Fin 12, n ∈ t.meas.scanSchedule ↔ (s.cfg.channels[n.val]).kind ≠ .unused) ∧
    ∀ n : Fin 2, t.pins.cueInputs[n.val] =
      { CueInput.stopped with sampling := decide (∃ p : Fin 24, (s.cfg.pins[p.val]).function = .cueIn n) }) ∧
  (∃ round : List (Fin 12), round.Pairwise (· < ·) ∧ (∀ n, n ∈ round ↔ MeasuresZero s.cfg n) ∧
    t.meas.zeroSchedule = (List.replicate 8 round).flatten) ∧
  (∀ n : Fin 12, ChannelStarted s.cfg.channels[n.val] s.meas.channels[n.val] t.meas.channels[n.val]) ∧
  t.comp = { expiryCount := 0, first := false } ∧ t.peers = [] ∧
  t.line = { s.line with queue := t.line.queue, stage := none, access := .noRelease, score := 0, degraded := false } ∧
  t.ice = { s.ice with failureCount := 0, state := .firm, warmRun := 0, ring := [], floodTimer := 0, settled := none } ∧
  t.fog = { s.fog with
    failureCount := 0, floodInView := false, marginState := .clear, beamActive := false, belowRun := 0, clearRun := 0
    beamFog := false, own := .clear, effectiveLevel := .clear, regen := s.cfg.fog.regenClear
    curtail := s.cfg.fog.curtailClear, fanDemand := false } ∧
  (t.heat = { s.heat with loops := t.heat.loops } ∧ ∀ n : Fin 4, t.heat.loops[n.val] =
    { s.heat.loops[n.val] with failureTimer := none, grant := 0, duty := 0, backup := false, holdCount := none }) ∧
  t.light = { s.light with
    pendingCues := [], takeMarker := false, targetCap := 1000, slewedCap := 1000, phase := t.light.phase, fades := t.light.fades } ∧
  (∀ i : Fin 12, t.node.causes[i.val] = { flag := false, count := 0 }) ∧
  t.cfg = s.cfg ∧ t.pins.board = s.pins.board ∧ t.resetHeld = s.resetHeld ∧ t.freeCount = s.freeCount

end Sys2Proof.Machine
end

