-- ==== Sys2Proof/Certificates/Slice0/Obligations.lean ====
section
/-!
DEFINITION. The statements for the provers: what each command does, by the manual's rules, the whole-block rules, and the
invariants that every step keeps. Each `def` below is one statement; its docstring names the rules it formalises.
-/
open Sys2Proof Sys2Proof.Machine

/-! ### The block as a whole -/

/-- For every command c and state s, a step of s with c at the front of its queue is exec c on s with the queue's rest. With nothing
waiting, an idle step changes only the count of RUNNING generators, and the part of a count time that has passed: of every generator the
run condition, slots, active slot, written marker, output and strobe stand, and an OFF one is not touched (the block's form; the idle step
is the model's choice, log entries 2 and 7). -/
def Obligations.StepRunsTheFrontCommand : Prop :=
  (∀ (c : Instr) (rest : List Instr) (s : State), step (s.setPending (c :: rest)) = exec c (s.setPending rest)) ∧
    ∀ s : State, s.pending = [] → ∃ g : Generators, step s = .next (s.setGens g) ∧
      (∀ (n : Fin 8) (d : Dimmer), s.gens.dimmers[n.val] = d →
        (d.gen.running = false → g.dimmers[n.val] = d) ∧
        ∃ count part, g.dimmers[n.val] = { d with gen := { d.gen with count := count, part := part } }) ∧
      ∀ (n : Fin 4) (v : Generator), s.gens.valves[n.val] = v →
        (v.running = false → g.valves[n.val] = v) ∧
        ∃ count part, g.valves[n.val] = { v with count := count, part := part }

/-- Every command in every state answers a next state and leaves the queue of waiting commands as it is: no fault and no
refusal (log entry 1). -/
def Obligations.EveryCommandAnswersANextState : Prop :=
  ∀ (c : Instr) (s : State), ∃ t, exec c s = .next t ∧ t.pending = s.pending

/-- A command whose operands are not of its row's form leaves the state as it is (the model's choice, log entry 1), on a
legal peer table. -/
def Obligations.IllFormedCommandsChangeNothing : Prop :=
  ∀ (c : Instr) (s : State), PeersLegal s → wellFormed c = false → exec c s = .next s

/-- Reset leaves every block legal, and the values that R16, R19, R53, R88, R112, R124, R127, R152, R154 and R162 state. -/
def Obligations.ResetLeavesTheStatedValues : Prop :=
  (PeersLegal .reset ∧ LineLegal .reset ∧ CausesLegal .reset ∧ GrantsLegal .reset ∧ FogLegal .reset ∧ CapsLegal .reset ∧
      GensLegal .reset ∧ MeasLegal .reset ∧ ConfigLegal State.reset.cfg) ∧
    State.reset.node.state = .unset ∧ State.reset.node.lastReset = .power ∧ State.reset.node.startFault = .noFault ∧
    (∀ i : Fin 12, State.reset.node.causes[i.val] = { flag := false, count := 0 }) ∧ attention .reset = false ∧
    State.reset.cfg.node = { address := 0, period := 1, mask := 4095#12, lightFloor := 0, startPhase := .idle } ∧
    State.reset.peers = [] ∧ State.reset.line.score = 0 ∧ State.reset.line.degraded = false ∧
    State.reset.line.ownSequence = 0 ∧ State.reset.line.cueSerial = 0 ∧ State.reset.ice.cap = 1000 ∧
    State.reset.fog.effectiveLevel = .clear ∧ State.reset.light.phase = .idle ∧ State.reset.light.current = none ∧
    State.reset.light.slewedCap = 1000 ∧ (∀ n : Fin 8, (State.reset.gens.dimmers[n.val]).gen.running = false) ∧
    (∀ n : Fin 24, pinDrive .reset n = none) ∧ State.reset.port.lastResult = .captured ∧
    State.reset.port.scenePointer = 0 ∧ State.reset.port.capturedSet = none ∧ State.reset.port.state = .portIdle ∧
    State.reset.port.pdoLevel = none ∧ PendingLegal .reset ∧ SlotsLegal .reset

/-- Every step keeps the Peer Table legal: at most 31 entries, ascending addresses, none the node's own, every field in its
range, and no entry in UNSET or STARTING (R23, R24). -/
def Obligations.StepKeepsPeersLegal : Prop :=
  ∀ s t : State, PeersLegal s → step s = .next t → PeersLegal t

/-- Every step keeps the Line Interface legal: score, degraded, counters, queue places, at most two CUE frames, the stage, and
nothing held outside LISTEN and RUN (R40, R46, R48, R53, R56). -/
def Obligations.StepKeepsLineLegal : Prop :=
  ∀ s t : State, LineLegal s → step s = .next t → LineLegal t

/-- Every step keeps the cause record legal (R159). -/
def Obligations.StepKeepsCausesLegal : Prop :=
  ∀ s t : State, CausesLegal s → step s = .next t → CausesLegal t

/-- Every step keeps each own grant within its loop's demand, and 0 in every node state other than RUN (R104, R105). -/
def Obligations.StepKeepsGrantsLegal : Prop :=
  ∀ s t : State, GrantsLegal s → step s = .next t → GrantsLegal t

/-- Every step keeps E the highest of the own fog state and the entries' states, with the fan, the regeneration request and
the curtail that follow it, and the flood in view the own flood or an entry's (R78, R85 to R87). -/
def Obligations.StepKeepsFogLegal : Prop :=
  ∀ s t : State, FogLegal s → step s = .next t → FogLegal t

/-- Every step keeps the target cap and the slewed cap between the light floor and 1000, on a legal peer table; and, with every
configuration field in its range, it keeps the pending cue list legal: at most four entries, none a STOP, in order of remaining wait,
no two of the same origin and serial (R120, R124, R126, R127; that an originated duplicate is ignored is the model's reading, log
entry 26). -/
def Obligations.StepKeepsCapsLegal : Prop :=
  (∀ s t : State, PeersLegal s → CapsLegal s → step s = .next t → CapsLegal t) ∧
    ∀ s t : State, ConfigLegal s.cfg → PendingLegal s → step s = .next t → PendingLegal t

/-- Every step keeps the generators legal: an OFF one at its power-on values, and a high output only before the count has
reached the active level; and, where configuration, Fog Guard and the caps are legal, every slot stays a level of 0 to 1000, since every
output level stays under the cap and every duty is that of a grant within the design heat (R132, R133, R135, R136, R139; R96 to R99,
R104, R106, R124). -/
def Obligations.StepKeepsGensLegal : Prop :=
  (∀ s t : State, GensLegal s → step s = .next t → GensLegal t) ∧
    ∀ s t : State, ConfigLegal s.cfg → FogLegal s → CapsLegal s → SlotsLegal s → step s = .next t → SlotsLegal t

/-- Every step keeps the channel records legal: a GOOD channel has a full ring and no step hold, an OUT_OF_RANGE one is FAILED
with an empty ring (Table 1-9, R6, R11, R15). -/
def Obligations.StepKeepsMeasLegal : Prop :=
  ∀ s t : State, MeasLegal s → step s = .next t → MeasLegal t

/-- Every step keeps every configuration field in its range (R1, R16, R58, R73, R90, R91, R112 to R115, R152). -/
def Obligations.StepKeepsConfigLegal : Prop :=
  ∀ s t : State, ConfigLegal s.cfg → step s = .next t → ConfigLegal t.cfg

/-- The node state changes only as Table 10-1 lets each event change it (R153). -/
def Obligations.NodeStateMovesByTheTable : Prop :=
  ∀ (c : Instr) (s t : State), exec c s = .next t →
    t.node.state = s.node.state ∨ mayMove c s.node.state t.node.state

/-- Configuration changes only at power-on, at reset pin assertion and by a write in UNSET (R152, R154, R167). -/
def Obligations.ConfigurationChangesOnlyByWritesAndResets : Prop :=
  ∀ (c : Instr) (s t : State), exec c s = .next t → t.cfg ≠ s.cfg →
    (∃ psel, c = .powerOn psel) ∨ c = .resetPinAssertion ∨
      (s.node.state = .unset ∧ ((∃ code pdi, c = .configurationWrite code pdi) ∨ ∃ pdi, c = .sceneWrite pdi))

/-! ### Resets, START, RESTART -/

/-- POWER_ON and RESET_PIN_ASSERTION put every block at its power-on values in any state, with the last reset kind; the release
of the pin and PSEL seen high change only what R154 and R162 give them. What is outside the part stands: what is held at the
pins, the reset pin's level, the waiting commands (log entry 12). -/
def Obligations.ResetRowsTakePowerOnValues : Prop :=
  ∀ (s : State) (psel : SelectLevel),
    exec (.powerOn psel) s = .next { State.reset with
      port := { SetupPort.powerOn with waitHigh := decide (psel = .low) }
      pins := { FieldPins.powerOn with board := s.pins.board }
      resetHeld := s.resetHeld
      freeCount := s.freeCount
      pending := s.pending } ∧
    exec .resetPinAssertion s = .next { State.reset with
      node := { NodeControl.powerOn with lastReset := .pin }
      pins := { FieldPins.powerOn with board := s.pins.board }
      resetHeld := true
      freeCount := s.freeCount
      pending := s.pending } ∧
    (s.resetHeld = true →
      exec (.resetPinRelease psel) s =
        .next ((s.setResetHeld false).setPort { s.port with waitHigh := decide (psel = .low) })) ∧
    (s.resetHeld = false → s.port.waitHigh = true →
      exec .pselSeenHigh s = .next (s.setPort { s.port with waitHigh := false }))

/-- The checks of START pass exactly on the configurations that break none of the conditions of Table 10-2; where some case holds, they
name the one tested first, with the index it records: the table's order, one pass over the channels and one over the loops with their
three cases at each, one over the pins (R2, R58, R73, R90, R92, R145, R155). The kinds that the bindings require are those of Table
1-8. -/
def Obligations.StartChecksPassExactly : Prop :=
  (∀ b : Binding, requiredKind b =
    if b = .bowlAirRh then .humid else if b = .sourceFlow then .flow else if b = .fogBeam then .beam else .temp) ∧
  ∀ cfg : Configuration,
    (∀ (f : StartFault) (i : Nat), startChecks cfg = some { fault := f, index := i } ↔
      StartCase cfg f i ∧ ∀ (g : StartFault) (j : Nat), StartCase cfg g j → ¬TestedBefore g j f i) ∧
    (startChecks cfg = none ↔
    cfg.node.address ≠ 0 ∧
    (∀ (n : Fin 12) (b : Binding), (cfg.channels[n.val]).binding = some b →
      (cfg.channels[n.val]).kind = requiredKind b ∧ ∀ m : Fin 12, m < n → (cfg.channels[m.val]).binding ≠ some b) ∧
    (((∃ n : Fin 12, (cfg.channels[n.val]).binding = some .sourceSupplyT) ↔
        ∃ n : Fin 12, (cfg.channels[n.val]).binding = some .sourceReturnT) ∧
      ((∃ n : Fin 12, (cfg.channels[n.val]).binding = some .sourceReturnT) ↔
        ∃ n : Fin 12, (cfg.channels[n.val]).binding = some .sourceFlow)) ∧
    (∀ (n : Fin 4) (cls : HeatClass), (cfg.loops[n.val]).cls = some cls →
      (cls ≠ .dry → ∃ m : Fin 12, (cfg.channels[m.val]).binding = some (.loopT n)) ∧
      (∀ m : Fin 4, m < n → (cfg.loops[m.val]).cls ≠ none → (cfg.loops[m.val]).valve ≠ (cfg.loops[n.val]).valve) ∧
      ∀ p : Fin 24, (cfg.loops[n.val]).backupPin = some p → (cfg.pins[p.val]).function = .backup n) ∧
    (∀ m n : Fin 24, m < n → (cfg.pins[m.val]).function = (cfg.pins[n.val]).function →
      (cfg.pins[n.val]).function = .outHigh ∨ (cfg.pins[n.val]).function = .outLow ∨
        (cfg.pins[n.val]).function = .input) ∧
    cfg.ice.lower < cfg.ice.upper ∧ cfg.fog.act < cfg.fog.watch)

/-- A START in UNSET whose checks pass enters STARTING, or LISTEN at once where no channel measures its zero: every block takes its entry
action and keeps the rest of its state (StartingEntered); the phase becomes the start phase, the start fault NONE and the port's result
APPLIED, while the last reset kind, the generators, the scene pointer and the configuration stand (R5, R15, R57, R71, R88, R110, R116,
R130, R150, R155, R156, R159). That regeneration request and curtail take the values configured for CLEAR is the model's reading, log
entry 13, and that the fades stay as they are is log entry 14. -/
def Obligations.StartEntersStarting : Prop :=
  ∀ s : State, portReady s = true → s.node.state = .unset → startChecks s.cfg = none →
    ∃ t, exec .start s = .next t ∧ StartingEntered s t ∧
      t.node.startFault = .noFault ∧ t.node.startFaultIndex = 0 ∧ t.node.lastReset = s.node.lastReset ∧
      t.light.phase = s.cfg.node.startPhase ∧ t.light.fades = s.light.fades ∧ t.gens = s.gens ∧
      t.port.lastResult = .applied ∧ t.port.capturedSet = none ∧ t.port.scenePointer = s.port.scenePointer ∧
      t.port.waitHigh = s.port.waitHigh ∧ t.port.state = .portIdle

/-- The actions that Table 10-3 refuses, and a START whose checks fail, change no state of the node but the port's last result
and, for the START, the start fault, which takes the code and index of the case tested first (StartChecksPassExactly says which; R155,
R157, R168). -/
def Obligations.RefusedActionsChangeNothing : Prop :=
  ∀ s : State, portReady s = true →
    (s.node.state ≠ .unset → ∃ t, exec .start s = .next t ∧ PortOnly s t .refusedState) ∧
    (∀ c, s.node.state = .unset → startChecks s.cfg = some c →
      ∃ t, exec .start s = .next t ∧
        PortOnly (s.setNode { s.node with startFault := c.fault, startFaultIndex := c.index }) t .refusedValue) ∧
    (s.node.state = .unset → ∃ t, exec .restart s = .next t ∧ PortOnly s t .refusedState) ∧
    (s.node.state = .starting → ∃ t, exec .restart s = .next t ∧ PortOnly s t .busy) ∧
    (s.node.state = .starting → ∃ t, exec .ack s = .next t ∧ PortOnly s t .refusedState) ∧
    (∀ n : Fin 2, s.node.state = .unset → ∃ t, exec (.pulse n) s = .next t ∧ PortOnly s t .refusedState) ∧
    ∀ n : Fin 2, s.node.state = .starting → ∃ t, exec (.pulse n) s = .next t ∧ PortOnly s t .busy

/-- An accepted RESTART enters STARTING, or LISTEN at once where no channel measures its zero: every block takes its entry action and
keeps the rest of its state (StartingEntered), the phase stands, every fade is HELD at its output level, the dimmer generators stand,
every valve generator is written 0, the last reset kind is RESTART and the start fault stands (R5, R15, R57, R71, R88, R110, R130, R141,
R142, R150, R156, R158, R159). That regeneration request and curtail take the values configured for CLEAR is the model's reading, log
entry 13, and that the fades become HELD is log entry 14. A valve generator that was still OFF is started by the write, which clears its
marker: that is the model's choice, log entry 36. -/
def Obligations.RestartKeepsAndClears : Prop :=
  ∀ s : State, portReady s = true → operatingIn s.node.state = true →
    ∃ t, exec .restart s = .next t ∧ StartingEntered s t ∧
      t.node.lastReset = .restart ∧ t.node.startFault = s.node.startFault ∧ t.node.startFaultIndex = s.node.startFaultIndex ∧
      t.light.phase = s.light.phase ∧
      (∀ n : Fin 8, t.light.fades[n.val] =
        { s.light.fades[n.val] with state := .held, level := (s.light.fades[n.val]).output }) ∧
      (t.gens.dimmers = s.gens.dimmers ∧ ∀ (n : Fin 4) (v : Generator), s.gens.valves[n.val] = v →
        (v.running = true → v.active = .a → t.gens.valves[n.val] = { v with slotB := 0, written := true }) ∧
        (v.running = true → v.active = .b → t.gens.valves[n.val] = { v with slotA := 0, written := true }) ∧
        (v = .powerOn → t.gens.valves[n.val] = { v with running := true, active := .b })) ∧
      t.port.lastResult = .applied ∧ t.port.capturedSet = none ∧ t.port.scenePointer = s.port.scenePointer ∧
      t.port.waitHigh = s.port.waitHigh ∧ t.port.state = .portIdle

/-! ### The setup port -/

/-- An accepted ACK clears the flag of each cause in the captured set whose count is unchanged, leaves every count and every other
flag, makes the set absent and answers APPLIED; without a set nothing changes and the result is NO_CAPTURE (R169). -/
def Obligations.AckClearsUnchangedCauses : Prop :=
  ∀ s : State, portReady s = true → s.node.state ≠ .starting →
    (s.port.capturedSet = none → ∃ t, exec .ack s = .next t ∧ PortOnly s t .noCapture) ∧
    ∀ set, s.port.capturedSet = some set →
      ∃ causes p, exec .ack s = .next ((s.setNode { s.node with causes := causes }).setPort p) ∧
        (∀ i : Fin 12, (causes[i.val]).count = (s.node.causes[i.val]).count ∧
          (causes[i.val]).flag =
            if set[i.val] = some (s.node.causes[i.val]).count then false else (s.node.causes[i.val]).flag) ∧
        p.capturedSet = none ∧ p.lastResult = .applied ∧ p.scenePointer = s.port.scenePointer

/-- PULSE n in LISTEN, RUN or MUTE originates cue input n's cue: the serial advances, STOP and a wait of 0 are taken, any other wait
enters the pending list or finds it full, in LISTEN and RUN the frame is offered, and CUE_DROPPED is raised for a full list and for a
third CUE; the cue-input records stand and nothing else changes (R46, R120 to R123, R149, R168). That a cue of the same origin and serial
as a waiting one is ignored by a list with room is the model's reading, log entry 26, and that a take leaves the fade level is log entry 22. -/
def Obligations.PulseOriginatesItsCue : Prop :=
  ∀ (s : State) (n : Fin 2), portReady s = true → operatingIn s.node.state = true →
    ∃ u p, exec (.pulse n) s = .next (u.setPort p) ∧ CueOriginated s u (inputCue s n) ∧ p.lastResult = .applied ∧
      p.state = .portIdle ∧ p.scenePointer = s.port.scenePointer ∧ p.capturedSet = s.port.capturedSet ∧
      p.waitHigh = s.port.waitHigh

/-- CAUSES_SNAPSHOT stores each cause whose flag is set with its count, shifts out the last result and Table 12-10's layout while the PDI
bits enter behind them, and changes nothing but the port, whatever the length (R162, R164 to R166). What stands in the port's count and
stage after the rise of PSEL, and the trace of PDO, are the model's choice, log entry 18. -/
def Obligations.CausesSnapshotStoresTheSet : Prop :=
  ∀ (s : State) (pdi : Bits), portReady s = true →
    ∃ p set, exec (.causesSnapshot pdi) s = .next (s.setPort p) ∧ p.capturedSet = some set ∧
      (∀ i : Fin 12, set[i.val] =
        if (s.node.causes[i.val]).flag then some (s.node.causes[i.val]).count else none) ∧
      Shifted p (bitsOfNat 8 (resultCode s.port.lastResult) ++ [attention s, false, false, false] ++
        ((List.finRange 12).reverse.map fun i => (s.node.causes[i.val]).flag) ++
        ((List.finRange 12).map fun i => bitsOfNat 8 (s.node.causes[i.val]).count).flatten) pdi ∧
      p.lastResult = .captured ∧ p.scenePointer = s.port.scenePointer ∧ p.waitHigh = s.port.waitHigh

/-- A transaction on IDENT, SNAP 0 to SNAP 5 or PEER of any length answers CAPTURED and changes nothing of the node. IDENT shows Table
12-6; each snapshot captures the fields its rule names; PEER captures the entry at its position, and where there is none address 0 with
every other field 0 or absent (R34, R72, R89, R111, R131, R143, R151, R161, R164 to R166, R170). What SNAP 0 to 2 show in UNSET is
the model's reading, log entry 32; the flood in view that SNAP 1 captures on a node without a margin path is log entry 33; that SNAP 5
shows the header's kinds is log entry 38, and its CUE places by age log entry 39; the held levels, the levels read at the pins
(PinsDriveTheirFunctions) and the count of readings are log entries 4 and 19; the bits of these windows but for IDENT are free, and SNAP
4 shows neither field the model added to a record, log entry 5. What stands in the port's count and stage after the rise of PSEL, and the
trace of PDO, are log entry 18. -/
def Obligations.ReadOnlyTransactionsOnlyCapture : Prop :=
  ∀ (s : State) (code : Code) (pdi : Bits) (board : Board), portReady s = true →
    (code.toNat = 0 ∨ (192 ≤ code.toNat ∧ code.toNat ≤ 197) ∨ (208 ≤ code.toNat ∧ code.toNat ≤ 239)) →
    ∃ p b stage, exec (.readOnlyWindowTransaction code pdi board) s =
        .next (((s.setPins { s.pins with board := b }).setPort p).setFreeCount
          (s.freeCount + if code.toNat = 192 ∨ code.toNat = 196 then 1 else 0)) ∧
      p.lastResult = .captured ∧ p.capturedSet = s.port.capturedSet ∧ p.scenePointer = s.port.scenePointer ∧
      p.waitHigh = s.port.waitHigh ∧ Shifted p stage pdi ∧ stage.take 8 = bitsOfNat 8 (resultCode s.port.lastResult) ∧
      (∀ w, windowOfCode code = some w → stage.length = 8 + w.length) ∧
      b = (if code.toNat = 196 then board else s.pins.board) ∧
      (code.toNat = 0 → stage.drop 8 =
        bitsOfNat 8 s.cfg.node.address ++ bitsOfNat 4 (stateCode s.node.state) ++ bitsOfNat 4 (muteCode s.node.state) ++
          bitsOfNat 4 (resetCode s.node.lastReset) ++ bitsOfNat 4 (startFaultCode s.node.startFault) ++
          bitsOfNat 8 s.node.startFaultIndex) ∧
      (code.toNat = 192 → p.snapshot = some (if s.node.state = .unset then
          .heat s.freeCount false (Vector.replicate 4 none) s.heat
        else .heat s.freeCount (bound s.cfg .sourceSupplyT && bound s.cfg .sourceReturnT && bound s.cfg .sourceFlow)
          (Vector.ofFn fun i : Fin 4 => (s.cfg.loops[i.val]).cls) s.heat)) ∧
      (code.toNat = 193 → p.snapshot = some (if s.node.state = .unset then .fog false false s.fog
        else .fog (bound s.cfg .bowlAirT && bound s.cfg .bowlAirRh && bound s.cfg .iceLayerAir) (bound s.cfg .fogBeam)
          s.fog)) ∧
      (code.toNat = 194 → p.snapshot = some (if s.node.state = .unset then .ice false s.ice
        else .ice (bound s.cfg .iceSurface) s.ice)) ∧
      (code.toNat = 195 → p.snapshot = some (.light s.light)) ∧
      (code.toNat = 196 → ∃ (raw : Vector Bool 24) (gens : Generators) (gated : Vector Bool 8) (cues : Vector CueInput 2),
        p.snapshot = some (.pins raw gens gated cues) ∧
        (∀ n : Fin 2, cues[n.val] = { s.pins.cueInputs[n.val] with lastLevel := none }) ∧
        (∀ n : Fin 24, raw[n.val] = rawLevel (s.setPins { s.pins with board := board }) n) ∧
        (∀ n : Fin 8, gens.dimmers[n.val] =
            { s.gens.dimmers[n.val] with gen := { (s.gens.dimmers[n.val]).gen with part := 0 } } ∧
          (gated[n.val] = true ↔ (s.gens.dimmers[n.val]).gen.output = true ∧
            ¬((s.gens.dimmers[n.val]).strobe.active = true ∧ (s.gens.dimmers[n.val]).strobe.phase = .offTime))) ∧
        ∀ n : Fin 4, gens.valves[n.val] = { s.gens.valves[n.val] with part := 0 }) ∧
      (code.toNat = 197 → ∃ view : Queued → FrameView,
        (∀ x, (view x).attempt = x.attempt ∧ (view x).kind = x.frame.kind) ∧
        p.snapshot = some (.line s.line.score s.line.degraded s.line.ownSequence s.line.cueSerial s.comp.first s.node.state
          (s.line.queue.statusPlace.map view) (s.line.queue.fogPlace.map view) (s.line.queue.recallPlace.map view)
          (s.line.queue.replayPlace.map view) (s.line.queue.cuePlaces.map view)
          (s.line.stage.map fun x => view x.queued))) ∧
      ∀ k, code.toNat = 208 + k →
        (∀ e, k ≠ 31 → s.peers[k]? = some e → p.snapshot = some (.peer e)) ∧
        (k = 31 ∨ s.peers.length ≤ k → p.snapshot = some (.peer
          { address := 0, period := 0, lastSequence := 0, age := 0, stale := false, phase := .idle, fog := .clear,
            flood := false, degraded := false, cap := none, radiant := none, offer := 0, offerDoubt := false, demands := [],
            gapCount := 0, lastCueSerial := none, splitCounter := 0 }))

/-- A write of any configuration window at its exact length, with any data: refused outside UNSET; in UNSET refused for a field value its
table does not list, and otherwise the window's record is written whole within its ranges, CLAMPED exactly where a field was clamped and
APPLIED where none was, with every other window, and a refused one, as they were (R1, R58, R73, R90, R91, R112 to R115, R152,
R165, R167, R171, Tables 12-7, 12-8 and 12-12 to 12-19). On SCENE it is the SCENE_WRITE of the same bits (SceneTransactionSetsPointerAndScene). -/
def Obligations.ConfigurationWritesAreJudged : Prop :=
  ∀ (s : State) (code : Code) (w : Window) (pdi : Bits), portReady s = true → windowOfCode code = some w →
    w.kind = .configuration → pdi.length = 8 + w.length →
    (w = .scene → exec (.configurationWrite code pdi) s = exec (.sceneWrite pdi) s) ∧
    (w ≠ .scene → ∃ t, exec (.configurationWrite code pdi) s = .next t ∧
      (s.node.state ≠ .unset → PortOnly s t .refusedState) ∧ (s.node.state = .unset → WriteJudged s t pdi w))

/-- A SCENE transaction sets the scene pointer to a number of 0 to 31 carried in at least 8 data bits, whatever its length and
whether or not it is applied; at exact length in UNSET it writes that scene alone, with KEEP at 65535, every other level clamped
to 1000, the strobe marks, and strobe widths of at least 1, and answers CLAMPED exactly where a level or a width was clamped (R113, R165,
R167, Table 12-9). -/
def Obligations.SceneTransactionSetsPointerAndScene : Prop :=
  ∀ (s : State) (pdi : Bits), portReady s = true →
    ∃ t p, exec (.sceneWrite pdi) s = .next t ∧ t = (s.setCfg { s.cfg with scenes := t.cfg.scenes }).setPort p ∧
      (pdi.length < 16 → p.scenePointer = s.port.scenePointer) ∧
      (16 ≤ pdi.length → natOfBits ((pdi.drop 8).take 8) ≤ 31 →
        p.scenePointer.val = natOfBits ((pdi.drop 8).take 8)) ∧
      (31 < natOfBits ((pdi.drop 8).take 8) → p.scenePointer = s.port.scenePointer) ∧
      (pdi.length ≠ 168 → t.cfg = s.cfg ∧ p.lastResult = .discardedLength) ∧
      (pdi.length = 168 → s.node.state ≠ .unset → t.cfg = s.cfg ∧ p.lastResult = .refusedState) ∧
      (pdi.length = 168 → s.node.state = .unset → 31 < natOfBits ((pdi.drop 8).take 8) →
        t.cfg = s.cfg ∧ p.lastResult = .refusedValue) ∧
      ∀ (k : Fin 32) (level : Fin 8 → Nat) (on off : Nat), pdi.length = 168 → s.node.state = .unset →
        natOfBits ((pdi.drop 8).take 8) = k.val →
        (∀ n, level n = natOfBits ((pdi.drop (16 + 16 * n.val)).take 16)) → on = natOfBits ((pdi.drop 152).take 8) →
        off = natOfBits ((pdi.drop 160).take 8) →
        (∀ j : Fin 32, j ≠ k → t.cfg.scenes[j.val] = s.cfg.scenes[j.val]) ∧
        (∀ n : Fin 8,
          (t.cfg.scenes[k.val]).levels[n.val] = (if level n = 65535 then none else some (min 1000 (level n))) ∧
          pdi[144 + (7 - n.val)]? = some (t.cfg.scenes[k.val]).marks[n.val]) ∧
        (t.cfg.scenes[k.val]).onWidth = max 1 on ∧ (t.cfg.scenes[k.val]).offWidth = max 1 off ∧
        ((∃ n, 1000 < level n ∧ level n ≠ 65535) ∨ on = 0 ∨ off = 0 → p.lastResult = .clamped) ∧
        ((∀ n, level n ≤ 1000 ∨ level n = 65535) → on ≠ 0 → off ≠ 0 → p.lastResult = .applied)

/-- What a capture shows of any configuration window of any legal configuration, written back at exact length in UNSET, is applied
without clamping and shows the same in the next capture (R164, R167, R171, section 12.3). -/
def Obligations.ConfigurationReadsBackAsWritten : Prop :=
  ∀ (s a : State) (code : Code) (w : Window) (pre : Bits), portReady s = true → s.node.state = .unset →
    windowOfCode code = some w → w.kind = .configuration → ConfigLegal a.cfg → a.meas = s.meas → pre.length = 8 →
    ∃ t, exec (.configurationWrite code (pre ++ shownBits w.length (contentsOf a w))) s = .next t ∧
      t.port.lastResult = .applied ∧ contentsOf t w = contentsOf a w

/-- A transaction under an unknown code passes PDI to PDO one bit late and captures and applies nothing; a transaction that ends in
CODE, with PDO low throughout, and one of the wrong length on a configuration or action window apply nothing; on the SCENE window a
wrong length still sets the scene pointer (R162, R163, R165, R166). What stands in the port's count, stage and snapshot after the rise of
PSEL, and the trace of PDO, are the model's choice, log entry 18. -/
def Obligations.UnappliedTransactionsChangeOnlyThePort : Prop :=
  ∀ s : State, portReady s = true →
    (∀ (code : Code) (pdi : Bits), windowOfCode code = none →
      ∃ t, exec (.unknownCode code pdi) s = .next t ∧ PortOnly s t .unknownCode ∧
        Shifted t.port [code.getLsbD 0] pdi ∧ t.port.snapshot = s.port.snapshot) ∧
    (∀ bits : Bits, bits.length < 8 →
      ∃ t, exec (.discardedLength bits) s = .next t ∧ PortOnly s t .discardedLength ∧ t.port.stage = s.port.stage ∧
        t.port.snapshot = s.port.snapshot ∧ t.port.count = bits.length ∧
        t.port.pdo = List.replicate bits.length (some false)) ∧
    (∀ (bits : Bits) (w : Window), 8 ≤ bits.length → windowOfCode (codeOfBits bits) = some w → w.kind ≠ .readOnly →
      w ≠ .scene → bits.length ≠ 16 + w.length →
      ∃ t, exec (.discardedLength bits) s = .next t ∧ PortOnly s t .discardedLength ∧ t.port.count = bits.length - 8) ∧
    ∀ bits : Bits, 8 ≤ bits.length → codeOfBits bits = 128#8 → bits.length ≠ 176 →
      ∃ p, exec (.discardedLength bits) s = .next (s.setPort p) ∧ p.lastResult = .discardedLength ∧
        p.capturedSet = s.port.capturedSet ∧ p.waitHigh = s.port.waitHigh ∧ p.state = .portIdle ∧
        (24 ≤ bits.length → natOfBits ((bits.drop 16).take 8) ≤ 31 →
          p.scenePointer.val = natOfBits ((bits.drop 16).take 8)) ∧
        (bits.length < 24 ∨ 31 < natOfBits ((bits.drop 16).take 8) → p.scenePointer = s.port.scenePointer)

/-! ### Measurement channels -/

/-- An in-range conversion of a channel that is neither FAILED nor OUT_OF_RANGE: the trimmed counts enter the ring, the value is that
of the mean by the channel's kind, a change beyond the step limit sets the hold, and the quality is judged; no other channel and no
other block changes (R7 to R12). -/
def Obligations.InRangeConversionFiltersAndJudges : Prop :=
  ∀ (s : State) (n : Fin 12) (raw : Counts), operatingIn s.node.state = true → s.meas.scanSchedule.head? = some n →
    (s.meas.channels[n.val]).zeroState ≠ .outOfRange → (s.meas.channels[n.val]).quality ≠ .failed →
    (s.meas.channels[n.val]).ring.length ≤ 4 → 3 ≤ raw.toNat → raw.toNat ≤ 4092 →
    ∃ (c : ChannelLive) (x m : Nat) (stepped : Bool),
      exec (.channelConversion n raw) s = .next (s.setMeas { s.meas with
        channels := setAt s.meas.channels n c, scanSchedule := s.meas.scanSchedule.tail }) ∧
      (x : Int) = max 0 (min 4095 ((raw.toNat : Int) + (s.cfg.channels[n.val]).trim + (s.meas.channels[n.val]).zeroCorrection)) ∧
      c.ring = (if (s.meas.channels[n.val]).ring.length < 4 then (s.meas.channels[n.val]).ring ++ [x]
        else (s.meas.channels[n.val]).ring.drop 1 ++ [x]) ∧
      m = c.ring.sum / c.ring.length ∧
      ((s.cfg.channels[n.val]).kind = .temp → c.value = ((m * 1500 / 4095 : Nat) : Int) - 500) ∧
      ((s.cfg.channels[n.val]).kind = .humid ∨ (s.cfg.channels[n.val]).kind = .beam → c.value = ((m * 1000 / 4095 : Nat) : Int)) ∧
      ((s.cfg.channels[n.val]).kind = .flow → c.value = ((m * (s.cfg.channels[n.val]).fullScale / 4095 : Nat) : Int)) ∧
      (stepped = true ↔ (s.cfg.channels[n.val]).stepLimit ≠ 0 ∧ (s.meas.channels[n.val]).ring ≠ [] ∧
        ((s.cfg.channels[n.val]).stepLimit : Int) < |c.value - (s.meas.channels[n.val]).value|) ∧
      c.stepHold = (if stepped then 10 else (s.meas.channels[n.val]).stepHold - 1) ∧
      c.quality = (if c.ring.length = 4 ∧ stepped = false ∧ (s.meas.channels[n.val]).stepHold = 0 then .good else .doubt) ∧
      c.lastRaw = raw.toNat ∧ c.outRun = 0 ∧ c.inRun = (s.meas.channels[n.val]).inRun ∧
      c.zeroCorrection = (s.meas.channels[n.val]).zeroCorrection ∧ c.zeroState = (s.meas.channels[n.val]).zeroState

/-- An out-of-range conversion: below three in a row only the runs and the last raw counts change; the third makes the channel
FAILED, with its value held, its step hold 0 and SENSOR_FAILED raised, which is the step of the SENSOR_FAILED row; a channel already FAILED
stays so, its run at most 3 and its in-range run back at 0, and raises no cause (R8, R13). -/
def Obligations.OutOfRangeConversionFailsAtThree : Prop :=
  ∀ (s : State) (n : Fin 12) (raw : Counts) (c : ChannelLive), operatingIn s.node.state = true →
    s.meas.scanSchedule.head? = some n → s.meas.channels[n.val] = c → c.zeroState ≠ .outOfRange →
    (raw.toNat ≤ 2 ∨ 4093 ≤ raw.toNat) →
    (c.quality ≠ .failed → c.outRun < 2 →
      exec (.channelConversion n raw) s = .next (s.setMeas { s.meas with
        channels := setAt s.meas.channels n { c with lastRaw := raw.toNat, outRun := c.outRun + 1, inRun := 0 }
        scanSchedule := s.meas.scanSchedule.tail })) ∧
    (c.quality ≠ .failed → c.outRun = 2 →
      exec (.channelConversion n raw) s = .next ((s.setMeas { s.meas with
        channels := setAt s.meas.channels n
          { c with lastRaw := raw.toNat, outRun := 3, inRun := 0, quality := .failed, stepHold := 0 }
        scanSchedule := s.meas.scanSchedule.tail }).raise .sensorFailed) ∧
      exec (.sensorFailed n raw) s = exec (.channelConversion n raw) s) ∧
    (c.quality = .failed →
      exec (.channelConversion n raw) s = .next (s.setMeas { s.meas with
        channels := setAt s.meas.channels n
          { c with lastRaw := raw.toNat, outRun := if c.outRun < 3 then c.outRun + 1 else 3, inRun := 0 }
        scanSchedule := s.meas.scanSchedule.tail }))

/-- An in-range conversion of a FAILED channel: the first seven only count, the eighth recovers the channel with its own sample in an
empty ring, its value from that sample alone and quality DOUBT, which is the step of the CHANNEL_RECOVERY row; a channel that is
OUT_OF_RANGE only has its last raw counts updated (R6, R14). -/
def Obligations.FailedChannelRecoversAtTheEighth : Prop :=
  ∀ (s : State) (n : Fin 12) (raw : Counts) (c : ChannelLive), operatingIn s.node.state = true →
    s.meas.scanSchedule.head? = some n → s.meas.channels[n.val] = c → c.quality = .failed →
    (c.zeroState = .outOfRange →
      exec (.channelConversion n raw) s = .next (s.setMeas { s.meas with
        channels := setAt s.meas.channels n { c with lastRaw := raw.toNat }
        scanSchedule := s.meas.scanSchedule.tail })) ∧
    (c.zeroState ≠ .outOfRange → 3 ≤ raw.toNat → raw.toNat ≤ 4092 → c.inRun < 7 →
      exec (.channelConversion n raw) s = .next (s.setMeas { s.meas with
        channels := setAt s.meas.channels n { c with lastRaw := raw.toNat, outRun := 0, inRun := c.inRun + 1 }
        scanSchedule := s.meas.scanSchedule.tail })) ∧
    (c.zeroState ≠ .outOfRange → 3 ≤ raw.toNat → raw.toNat ≤ 4092 → c.inRun = 7 →
      ∃ (c' : ChannelLive) (x : Nat),
        exec (.channelRecovery n raw) s = .next (s.setMeas { s.meas with
          channels := setAt s.meas.channels n c', scanSchedule := s.meas.scanSchedule.tail }) ∧
        exec (.channelConversion n raw) s = exec (.channelRecovery n raw) s ∧
        (x : Int) = max 0 (min 4095 ((raw.toNat : Int) + (s.cfg.channels[n.val]).trim + c.zeroCorrection)) ∧
        c'.ring = [x] ∧ c'.value = valueOf s.cfg.channels[n.val] x ∧ c'.quality = .doubt ∧ c'.stepHold = 0 ∧
        c'.inRun = 0 ∧ c'.outRun = 0 ∧ c'.lastRaw = raw.toNat)

/-- A reference conversion in STARTING: the first seven only collect counts; the eighth forms 2048 minus their mean, accepted up to a
magnitude of 200 and otherwise rejected with the channel FAILED and ZERO_RANGE raised, which is the step of the
ZERO_MEASUREMENT_COMPLETE row; the last one of all forms its channel's correction in the same way and ends STARTING (R5, R6, R156). -/
def Obligations.ReferenceConversionsFormTheCorrection : Prop :=
  ∀ (s : State) (n : Fin 12) (raw : Counts) (c : ChannelLive) (k : Int), s.node.state = .starting →
    s.meas.zeroSchedule.head? = some n → s.meas.channels[n.val] = c →
    k = 2048 - (((c.zeroCounts.sum + raw.toNat) / 8 : Nat) : Int) →
    (c.zeroCounts.length < 7 → s.meas.zeroSchedule.tail ≠ [] →
      exec (.zeroReferenceConversion n raw) s = .next (s.setMeas { s.meas with
        channels := setAt s.meas.channels n { c with zeroCounts := c.zeroCounts ++ [raw.toNat] }
        zeroSchedule := s.meas.zeroSchedule.tail })) ∧
    (c.zeroCounts.length = 7 → s.meas.zeroSchedule.tail ≠ [] → |k| ≤ 200 →
      exec (.zeroMeasurementComplete n raw) s = .next (s.setMeas { s.meas with
        channels := setAt s.meas.channels n { c with zeroCounts := [], zeroCorrection := k, zeroState := .done }
        zeroSchedule := s.meas.zeroSchedule.tail })) ∧
    (c.zeroCounts.length = 7 → s.meas.zeroSchedule.tail ≠ [] → 200 < |k| →
      exec (.zeroMeasurementComplete n raw) s = .next ((s.setMeas { s.meas with
        channels := setAt s.meas.channels n
          { c with zeroCounts := [], zeroCorrection := k, zeroState := .outOfRange, quality := .failed }
        zeroSchedule := s.meas.zeroSchedule.tail }).raise .zeroRange)) ∧
    (c.zeroCounts.length = 7 → exec (.zeroReferenceConversion n raw) s = exec (.zeroMeasurementComplete n raw) s) ∧
    (c.zeroCounts.length = 7 → s.meas.zeroSchedule.tail = [] →
      ∃ t, exec (.zeroMeasurementComplete n raw) s = .next t ∧ t.node.state = .listen ∧
        (∀ m : Fin 12, m ∈ t.meas.scanSchedule ↔ (s.cfg.channels[m.val]).kind ≠ .unused) ∧
        t.line.queue.recallPlace = some { frame := .recall, attempt := 0 } ∧ t.line.access = .noRelease ∧
        t.comp.expiryCount = 0 ∧ t.light.takeMarker = false ∧
        (|k| ≤ 200 → t.meas.channels =
          setAt s.meas.channels n { c with zeroCounts := [], zeroCorrection := k, zeroState := .done }) ∧
        (200 < |k| → t.meas.channels = setAt s.meas.channels n
          { c with zeroCounts := [], zeroCorrection := k, zeroState := .outOfRange, quality := .failed }) ∧
        CausesAfter s t 7 (if 200 < |k| then 1 else 0) ∧ t.peers = s.peers ∧ t.gens = s.gens ∧ t.heat = s.heat ∧
        t.ice = s.ice ∧ t.fog = s.fog ∧ t.cfg = s.cfg ∧
        ∀ i : Fin 2, (t.pins.cueInputs[i.val]).sampling = (pinOf s.cfg (.cueIn i)).isSome)

/-- A scan begins in LISTEN, RUN or MUTE once the one before is complete, with every channel of kind other than UNUSED to be converted
once, in ascending index; nothing else changes (R7). -/
def Obligations.ScanSchedulesUsedChannels : Prop :=
  ∀ s : State, operatingIn s.node.state = true → s.meas.scanSchedule = [] →
    ∃ l, exec .scan s = .next (s.setMeas { s.meas with scanSchedule := l }) ∧ l.Pairwise (· < ·) ∧
      ∀ n : Fin 12, n ∈ l ↔ (s.cfg.channels[n.val]).kind ≠ .unused

/-! ### Status and peers -/

/-- A period expiry: in RUN a STATUS with the next sequence and the values its owners hold enters the STATUS place; in LISTEN the first
one is counted and no STATUS composed; in MUTE none is composed. What the expiry does not reach stands: the rest of the line, the node
record but for the node state and the causes, and every other block (R17, R19, R21, R22). -/
def Obligations.PeriodExpiryComposesInRun : Prop :=
  ∀ s : State, operatingIn s.node.state = true →
    ∃ t, exec .statusPeriodExpiry s = .next t ∧
      (s.node.state = .run → t.node.state = .run ∧ t.line.ownSequence = (s.line.ownSequence + 1) % 16 ∧ t.comp = s.comp ∧
        ∃ c : StatusContent, t.line.queue = { s.line.queue with statusPlace := some { frame := .status c, attempt := 0 } } ∧
          c.sequence = (s.line.ownSequence + 1) % 16 ∧ c.phase = s.light.phase ∧ c.fog = s.fog.own ∧
          c.flood = decide (0 < s.ice.floodTimer) ∧ c.degraded = s.line.degraded ∧ c.first = s.comp.first ∧
          c.period = s.cfg.node.period ∧ c.offer = t.heat.offer ∧ c.offerDoubt = t.heat.offerDoubt ∧
          c.cap = (if bound s.cfg .iceSurface then some s.ice.cap else none) ∧
          ((∃ n : Fin 8, 0 < s.cfg.coefficients[n.val]) → c.radiant = some s.light.radiant) ∧
          ((∀ n : Fin 8, s.cfg.coefficients[n.val] = 0) → c.radiant = none) ∧
          c.demands = (List.finRange 4).filterMap fun n => (s.cfg.loops[n.val]).cls.map fun cls =>
            { cls := cls, loop := n, amount := (t.heat.loops[n.val]).demand,
              doubt := decide ((t.heat.loops[n.val]).kind ≠ .computed) }) ∧
      (s.node.state = .listen → s.comp.expiryCount = 0 →
        t.node.state = .listen ∧ t.comp = { s.comp with expiryCount := 1 } ∧ t.line = s.line) ∧
      (∀ k, s.node.state = .mute k → t.node.state = .mute k ∧ t.comp = s.comp ∧ t.line = s.line) ∧
      t = (((((s.setPeers t.peers).setComp t.comp).setLine { s.line with
          ownSequence := t.line.ownSequence, queue := t.line.queue }).setHeat t.heat).setGens
        { s.gens with valves := t.gens.valves }).setNode { s.node with state := t.node.state, causes := t.node.causes }

/-- The second expiry after an entry into LISTEN: every own grant is 0, the node enters RUN with the FIRST marker set, and its first
STATUS, carrying FIRST and the next sequence, enters the queue; that is the step of the ENTER_RUN row (R18, R20, R105). -/
def Obligations.SecondExpiryEntersRun : Prop :=
  ∀ s : State, s.node.state = .listen → s.comp.expiryCount = 1 →
    exec .enterRun s = exec .statusPeriodExpiry s ∧
      ∃ t c, exec .enterRun s = .next t ∧ t.node.state = .run ∧ t.comp = { expiryCount := 2, first := true } ∧
        t.line.ownSequence = (s.line.ownSequence + 1) % 16 ∧
        t.line.queue = { s.line.queue with statusPlace := some { frame := .status c, attempt := 0 } } ∧
        c.first = true ∧ c.sequence = (s.line.ownSequence + 1) % 16 ∧
        (∀ n : Fin 4, (t.heat.loops[n.val]).grant = 0) ∧
        t = (((((s.setPeers t.peers).setComp t.comp).setLine { s.line with
            ownSequence := t.line.ownSequence, queue := t.line.queue }).setHeat t.heat).setGens
          { s.gens with valves := t.gens.valves }).setNode { s.node with state := t.node.state, causes := t.node.causes }

/-- The phase-split check of a period expiry: a FRESH entry whose phase differs from the node's own counts up to 3, every other
counter becomes 0, and each passage from 2 to 3 raises PHASE_SPLIT; where the entry at an address makes that passage, the expiry
is the step of the PHASE_SPLIT row (R33). -/
def Obligations.PhaseSplitCountsFreshDifferences : Prop :=
  ∀ s : State, operatingIn s.node.state = true →
    (∃ t, exec .statusPeriodExpiry s = .next t ∧
      t.peers = s.peers.map (fun e => { e with
        splitCounter := if e.stale = false ∧ e.phase ≠ s.light.phase then min 3 (e.splitCounter + 1) else 0 }) ∧
      CausesAfter s t 11
        (s.peers.filter fun e => e.splitCounter = 2 ∧ e.stale = false ∧ e.phase ≠ s.light.phase).length) ∧
    ∀ e ∈ s.peers, PeersLegal s → e.splitCounter = 2 → e.stale = false → e.phase ≠ s.light.phase →
      exec (.phaseSplit e.address) s = exec .statusPeriodExpiry s

/-- An ageing step adds 10 ms to every entry's age, makes an entry STALE above three and removes it above eight of its sender's
periods, touching nothing but the table and Fog Guard's conditions; the steps of the ENTRY_STALE and ENTRY_LOST rows are the
ageing steps at which an entry crosses its threshold (R28, R29, R31). -/
def Obligations.AgeingStaleAndLost : Prop :=
  ∀ s : State, operatingIn s.node.state = true → PeersLegal s →
    (∃ t, exec .ageingStep s = .next t ∧
      t = (s.setPeers ((s.peers.filter fun e => e.age + 1 ≤ 8 * (25 * (e.period + 1))).map fun e =>
        { e with age := e.age + 1, stale := decide (3 * (25 * (e.period + 1)) < e.age + 1) })).setFog t.fog ∧
      FogRederived s t) ∧
    (∀ e ∈ s.peers, e.stale = false → e.age = 3 * (25 * (e.period + 1)) →
      exec (.entryStale e.address) s = exec .ageingStep s) ∧
    ∀ e ∈ s.peers, e.age = 8 * (25 * (e.period + 1)) → exec (.entryLost e.address) s = exec .ageingStep s

/-- A valid STATUS of another station: the score falls by 1, and with a phase code of 5, 6 or 7 nothing else comes of it. With a listed
phase: a new entry where there is room, PEER_OVERFLOW where there is none, a complete rewrite by FIRST, nothing for a duplicate, and
otherwise the new fields with the gap counted; its numbers are stored clamped, Fog Guard's conditions follow, and no other block changes
(R24 to R27, R31, R53, R78, R85). That they are re-derived after a STATUS that changes nothing is log entry 21. -/
def Obligations.StatusReceivedStoresOrIgnores : Prop :=
  ∀ (s : State) (f : Frame), PeersLegal s → canReceive s = true → f.valid = true → f.kind = .status →
    f.sender.toNat ≠ s.cfg.node.address →
    ∃ t, exec (.statusReceived f) s = .next t ∧ ScoredGood s t ∧
      t = (((s.setLine { s.line with score := t.line.score, degraded := t.line.degraded, access := .closed }).setPeers
        t.peers).setNode { s.node with causes := t.node.causes }).setFog t.fog ∧
      (f.readStatus = none → t.peers = s.peers ∧ t.node = s.node ∧ t.fog = s.fog) ∧
      ∀ c : StatusContent, f.readStatus = some c →
      FogRederived s t ∧
      CausesAfter s t 5 (if (∀ e ∈ s.peers, e.address ≠ f.sender.toNat) ∧ s.peers.length = 31 then 1 else 0) ∧
      (∀ e', e' ∈ t.peers → e'.address ≠ f.sender.toNat → e' ∈ s.peers) ∧
      (∀ e, e ∈ s.peers → e.address ≠ f.sender.toNat → e ∈ t.peers) ∧
      ((∀ e ∈ s.peers, e.address ≠ f.sender.toNat) → s.peers.length < 31 →
        ∃ e' ∈ t.peers, e'.address = f.sender.toNat ∧ e'.gapCount = 0 ∧ e'.splitCounter = 0 ∧ e'.lastCueSerial = none ∧
          e'.age = 0 ∧ e'.stale = false ∧ e'.lastSequence = c.sequence ∧ e'.phase = c.phase ∧ e'.fog = c.fog ∧
          e'.flood = c.flood ∧ e'.degraded = c.degraded ∧ e'.period = c.period ∧ e'.cap = c.cap.map (min 1000) ∧
          e'.radiant = c.radiant.map (min 4000) ∧ e'.offer = min 6000 c.offer ∧ e'.offerDoubt = c.offerDoubt ∧
          e'.demands = c.demands.map fun d => { d with amount := min 4000 d.amount }) ∧
      ((∀ e ∈ s.peers, e.address ≠ f.sender.toNat) → s.peers.length = 31 → t.peers = s.peers) ∧
      ∀ e ∈ s.peers, e.address = f.sender.toNat →
        (c.first = false → c.sequence = e.lastSequence → t.peers = s.peers) ∧
        (c.first = true ∨ c.sequence ≠ e.lastSequence →
          ∃ e' ∈ t.peers, e'.address = e.address ∧ e'.age = 0 ∧ e'.stale = false ∧ e'.lastSequence = c.sequence ∧
            e'.phase = c.phase ∧ e'.fog = c.fog ∧ e'.flood = c.flood ∧ e'.degraded = c.degraded ∧ e'.period = c.period ∧
            e'.cap = c.cap.map (min 1000) ∧ e'.radiant = c.radiant.map (min 4000) ∧ e'.offer = min 6000 c.offer ∧
            e'.offerDoubt = c.offerDoubt ∧ e'.demands = (c.demands.map fun d => { d with amount := min 4000 d.amount }) ∧
            (c.first = true → e'.gapCount = 0 ∧ e'.splitCounter = 0 ∧ e'.lastCueSerial = none) ∧
            (c.first = false → e'.splitCounter = e.splitCounter ∧ e'.lastCueSerial = e.lastCueSerial ∧
              e'.gapCount = min 255 (e.gapCount + (((c.sequence : Int) - (e.lastSequence : Int) - 1) % 16).toNat)))

/-- A valid FOG of another station sets FOG or ACT in its sender's entry, FRESH or STALE, and changes no other field of any entry; with
any other element, and from an address with no entry, the table stands. The score falls by 1, degraded follows it, E and the flood in view
follow the table, and nothing else changes (R30, R31, R52, R53, R78, R85). -/
def Obligations.FogReceivedMarksTheSender : Prop :=
  ∀ (s : State) (f : Frame), canReceive s = true → f.valid = true → f.kind = .fog →
    f.sender.toNat ≠ s.cfg.node.address →
    ∃ t, exec (.fogReceived f) s = .next t ∧ ScoredGood s t ∧
      t = ((s.setLine { s.line with score := t.line.score, degraded := t.line.degraded, access := .closed }).setPeers
        t.peers).setFog t.fog ∧
      t.peers = s.peers.map (fun e =>
        if e.address = f.sender.toNat ∧ f.dataAt 0 = 1 then { e with fog := .fog }
        else if e.address = f.sender.toNat ∧ f.dataAt 0 = 2 then { e with fog := .act }
        else e) ∧
      (f.dataAt 0 = 1 ∨ f.dataAt 0 = 2 → FogRederived s t) ∧ (f.dataAt 0 ≠ 1 → f.dataAt 0 ≠ 2 → t.fog = s.fog)

/-! ### Cues, replays and RECALL -/

/-- A valid CUE of another station without the replay mark: discarded where R117 discards it or outside the serial window; accepted,
its serial becomes the origin's last cue serial, a pending duplicate goes no further, and STOP and a wait of 0 are taken, any other
wait enters the pending list behind every entry of no greater remaining wait, or a full list refuses it with CUE_DROPPED. The score
falls by 1 (R53, R117 to R122). That a take leaves the fade level until the next fade step is the model's reading, log entry 22. -/
def Obligations.CueReceivedIsJudgedAndActs : Prop :=
  ∀ (s : State) (f : Frame), PeersLegal s → canReceive s = true → f.valid = true → f.kind = .cue → f.replayMark = false →
    f.sender.toNat ≠ s.cfg.node.address →
    ∃ t, exec (.cueReceived f) s = .next t ∧ ScoredGood s t ∧
      t = (((((s.setLine { s.line with score := t.line.score, degraded := t.line.degraded, access := .closed }).setPeers
        t.peers).setLight t.light).setGens t.gens).setNode { s.node with causes := t.node.causes }) ∧
      (f.readCue = none → t.peers = s.peers ∧ t.light = s.light ∧ t.gens = s.gens ∧ t.node = s.node) ∧
      ∀ c, f.readCue = some c →
        ((∃ e ∈ s.peers, e.address = c.origin ∧ ∃ l, e.lastCueSerial = some l ∧
            ¬(1 ≤ ((c.serial : Int) - (l : Int)) % 256 ∧ ((c.serial : Int) - (l : Int)) % 256 ≤ 127)) →
          t.peers = s.peers ∧ t.light = s.light ∧ t.gens = s.gens ∧ t.node = s.node) ∧
        ((∀ e ∈ s.peers, e.address = c.origin → ∀ l, e.lastCueSerial = some l →
            1 ≤ ((c.serial : Int) - (l : Int)) % 256 ∧ ((c.serial : Int) - (l : Int)) % 256 ≤ 127) →
          t.peers = s.peers.map (fun e => if e.address = c.origin then { e with lastCueSerial := some c.serial } else e) ∧
          ((∃ p ∈ s.light.pendingCues, p.origin = c.origin ∧ p.serial = c.serial) →
            t.light = s.light ∧ t.gens = s.gens ∧ t.node = s.node) ∧
          ((∀ p ∈ s.light.pendingCues, p.origin ≠ c.origin ∨ p.serial ≠ c.serial) →
            (c.number = 255 ∨ c.wait = 0 → CueTaken s t (recordOfCue c) ∧ t.node = s.node) ∧
            (c.number ≠ 255 → 0 < c.wait → s.light.pendingCues.length < 4 →
              t.gens = s.gens ∧ t.node = s.node ∧ ∃ xs ys, s.light.pendingCues = xs ++ ys ∧
                t.light = { s.light with
                  pendingCues := xs ++ PendingCue.mk c.origin c.serial c.number c.phase c.fade (c.wait * 5) :: ys } ∧
                (∀ p ∈ xs, p.remaining ≤ c.wait * 5) ∧ ∀ p, ys.head? = some p → c.wait * 5 < p.remaining) ∧
            (c.number ≠ 255 → 0 < c.wait → 4 ≤ s.light.pendingCues.length →
              t.light = s.light ∧ t.gens = s.gens ∧ CausesAfter s t 4 1)))

/-- A valid replay CUE of another station that passes R117 withdraws the node's own waiting replay, not one in the stage, and in LISTEN
with the take marker clear is taken, whatever its wait; otherwise it changes no lighting. A valid RECALL is answered in RUN, by a
node with a current cue record and no replay of its own in the queue or the stage, with one replay of that cue (R46, R128, R129). That a
take leaves the fade level until the next fade step is the model's reading, log entry 22. -/
def Obligations.ReplayAndRecallReceived : Prop :=
  ∀ (s : State) (f : Frame), canReceive s = true → f.valid = true → f.sender.toNat ≠ s.cfg.node.address →
    (f.kind = .cue → f.replayMark = true →
      ∃ t, exec (.replayReceived f) s = .next t ∧ ScoredGood s t ∧
        t = ((s.setLine { s.line with
          score := t.line.score, degraded := t.line.degraded, access := .closed, queue := t.line.queue }).setLight
            t.light).setGens t.gens ∧
        (f.readCue = none → t.line.queue = s.line.queue ∧ t.light = s.light ∧ t.gens = s.gens) ∧
        ∀ c, f.readCue = some c → t.line.queue = { s.line.queue with replayPlace := none } ∧
          (s.node.state = .listen → s.light.takeMarker = false → CueTaken s t (recordOfCue c)) ∧
          (s.node.state ≠ .listen ∨ s.light.takeMarker = true → t.light = s.light ∧ t.gens = s.gens)) ∧
    (f.kind = .recall →
      ∃ t, exec (.recallReceived f) s = .next t ∧ ScoredGood s t ∧
        t = s.setLine { s.line with
          score := t.line.score, degraded := t.line.degraded, access := .closed, queue := t.line.queue } ∧
        (∀ c, s.node.state = .run → s.light.current = some c → s.line.queue.replayPlace = none →
          (∀ st r, s.line.stage = some st → st.queued.frame ≠ .replay r) →
          t.line.queue = { s.line.queue with
            replayPlace := some (Queued.mk (.replay (Cue.mk c.origin c.serial c.number c.phase 0 c.fade)) 0) }) ∧
        (s.node.state ≠ .run ∨ s.light.current = none ∨ s.line.queue.replayPlace ≠ none ∨
            (∃ st r, s.line.stage = some st ∧ st.queued.frame = .replay r) →
          t.line.queue = s.line.queue))

/-- A fade step: every remaining wait falls by 1, the pending cues that expire are taken in list order, and then the channels are
stepped, written and summed (R120, R121, R124, R125). The PENDING_CUE_EXPIRY row is the fade step at which a pending cue expires; the
FADE_END row of channel n is the one at which the fade that runs once the list is served ends, and no event at any other (the model's
choice, log entries 1 and 29). That a take leaves the fade level is log entry 22. That no pending cue is a STOP is kept by every step
(StepKeepsCapsLegal). -/
def Obligations.FadeStepServesThenAdvances : Prop :=
  ∀ s : State, operatingIn s.node.state = true → (∀ p ∈ s.light.pendingCues, p.number ≠ 255) →
    (∃ t u, exec .fadeStep s = .next t ∧
      TakenInOrder
        ((s.light.pendingCues.filter fun p => decide (p.remaining ≤ 1)).map fun p =>
          { origin := p.origin, serial := p.serial, number := p.number, phase := p.phase, fade := p.fade })
        (s.setLight { s.light with pendingCues :=
          (s.light.pendingCues.filter fun p => decide (1 < p.remaining)).map fun p =>
            { p with remaining := p.remaining - 1 } }) u ∧
      FadesStepped u t ∧
      t = (u.setLight { u.light with fades := t.light.fades, radiant := t.light.radiant }).setGens
        { u.gens with dimmers := t.gens.dimmers } ∧
      ∀ n : Fin 8,
        ((u.light.fades[n.val]).state = .fading → (u.light.fades[n.val]).length ≤ (u.light.fades[n.val]).step + 1 →
          exec (.fadeEnd n) s = exec .fadeStep s) ∧
        ((u.light.fades[n.val]).state ≠ .fading ∨ (u.light.fades[n.val]).step + 1 < (u.light.fades[n.val]).length →
          exec (.fadeEnd n) s = .next s)) ∧
    ((∃ p ∈ s.light.pendingCues, p.remaining ≤ 1) → exec .pendingCueExpiry s = exec .fadeStep s)

/-- A cap step: the target is the smallest of the own cap of a node with ice and the entries' caps, raised to the light floor, or 1000
with none; the slewed cap moves toward it by at most 20 down or 5 up; nothing else changes (R126, R127). -/
def Obligations.CapStepSlewsTowardTheTarget : Prop :=
  ∀ s : State, operatingIn s.node.state = true →
    ∃ target slewed, exec .capStep s = .next (s.setLight { s.light with targetCap := target, slewedCap := slewed }) ∧
      (bound s.cfg .iceSurface = false → (∀ e ∈ s.peers, e.cap = none) → target = 1000) ∧
      (bound s.cfg .iceSurface = true →
        target ≤ max s.cfg.node.lightFloor s.ice.cap) ∧
      (∀ e ∈ s.peers, ∀ c, e.cap = some c → target ≤ max s.cfg.node.lightFloor c) ∧
      (bound s.cfg .iceSurface = true ∨ (∃ e ∈ s.peers, e.cap ≠ none) →
        (bound s.cfg .iceSurface = true ∧ target = max s.cfg.node.lightFloor s.ice.cap) ∨
          ∃ e ∈ s.peers, ∃ c, e.cap = some c ∧ target = max s.cfg.node.lightFloor c) ∧
      (target < s.light.slewedCap →
        slewed = if s.light.slewedCap - target < 20 then target else s.light.slewedCap - 20) ∧
      (s.light.slewedCap < target → slewed = if target - s.light.slewedCap < 5 then target else s.light.slewedCap + 5) ∧
      (target = s.light.slewedCap → slewed = s.light.slewedCap)

/-! ### Cue inputs -/

/-- One sample of both cue inputs at one instant: arming at twenty equal samples, then an accepted edge at the eighth new one. A rising
edge originates its input's cue; where both rise, input 0 before input 1 (the model's choice, log entry 35); a sample with no rising edge,
and one that arms, originates nothing. A stopped input is not sampled. The rows CUE_INPUT_ARM and ACCEPTED_EDGE are the samples at which
these happen (R46, R120 to R123, R147 to R149). The level of a pin is stated where the outside or an acting pull-up settles it: what is
held at the pins and the count of readings are the model's, log entries 4 and 19. That a take leaves the fade level is log entry 22, and
the list's duplicate case log entry 26. -/
def Obligations.CueInputSampleArmsAndAccepts : Prop :=
  ∀ (s : State) (board : Board), operatingIn s.node.state = true →
    ∃ (t b : State) (after : Vector CueInput 2) (rises : Fin 2 → Prop),
      exec (.cueInputSample board) s = .next t ∧
      b = (s.setPins { cueInputs := after, board := board }).setFreeCount (s.freeCount + 1) ∧
      (∀ n : Fin 2, rises n ↔ (s.pins.cueInputs[n.val]).armed = true ∧ (s.pins.cueInputs[n.val]).debounced ≠ some true ∧
        (after[n.val]).debounced = some true) ∧
      (¬rises 0 → ¬rises 1 → t = b) ∧
      (rises 0 → ¬rises 1 → CueOriginated b t (inputCue b 0)) ∧
      (¬rises 0 → rises 1 → CueOriginated b t (inputCue b 1)) ∧
      (rises 0 → rises 1 → ∃ u, CueOriginated b u (inputCue b 0) ∧ CueOriginated u t (inputCue u 1)) ∧
      ∀ n : Fin 2,
      ((s.pins.cueInputs[n.val]).sampling = false → after[n.val] = s.pins.cueInputs[n.val]) ∧
      ∀ (p : Fin 24) (raw level : Bool) (c : CueInput) (run : Nat), s.pins.cueInputs[n.val] = c → c.sampling = true →
        (s.cfg.pins[p.val]).function = .cueIn n → (∀ q : Fin 24, q < p → (s.cfg.pins[q.val]).function ≠ .cueIn n) →
        ((raw = false ∧ (board[p.val] = .low ∨ board[p.val] = .forcedLow)) ∨
          (raw = true ∧ (board[p.val] = .high ∨ board[p.val] = .forcedHigh ∨
            (board[p.val] = .opened ∧ (s.cfg.pins[p.val]).pullUp = true)))) →
        level = (if (s.cfg.pins[p.val]).polarity = .inverted then !raw else raw) →
        run = (if c.lastLevel = some level then c.armingRun + 1 else 1) →
        (c.armed = false → run < 20 → after[n.val] = { c with armingRun := run, lastLevel := some level }) ∧
        (c.armed = false → 20 ≤ run →
          after[n.val] =
            { c with armed := true, armingRun := run, lastLevel := some level, debounced := some level, changeRun := 0 } ∧
          exec (.cueInputArm n board) s = exec (.cueInputSample board) s) ∧
        (c.armed = true → c.debounced = some level → after[n.val] = { c with lastLevel := some level, changeRun := 0 }) ∧
        (c.armed = true → c.debounced ≠ some level → c.changeRun + 1 < 8 →
          after[n.val] = { c with lastLevel := some level, changeRun := c.changeRun + 1 }) ∧
        (c.armed = true → c.debounced ≠ some level → 8 ≤ c.changeRun + 1 →
          after[n.val] = { c with lastLevel := some level, debounced := some level, changeRun := 0 } ∧
          exec (.acceptedEdge n board) s = exec (.cueInputSample board) s)

/-! ### The arena line: access -/

/-- The slot count: a release begins it, another station's lead ends it and leaves every attempt number, and a slot start sends nothing
unless transmission is allowed and the head's slot by its class, address and attempt number is the one now starting; then the head
moves into the stage, a STATUS with its fog field written, and the attempt begins. FOG and a CUE without the replay mark are class U;
RECALL, a replay and STATUS class S (R36, R37, R39 to R41, R47 to R49, Table 3-2). That a RELEASE taken on an idle line begins the count
anew is the model's reading, log entry 8. -/
def Obligations.SlotCountAndAttempts : Prop :=
  ∀ s : State, operatingIn s.node.state = true →
    (s.line.access ≠ .sending → exec .release s = .next (s.setLine { s.line with access := .idle 0 })) ∧
    ∀ k, s.line.access = .idle k →
      exec .defer s = .next (s.setLine { s.line with access := .receiving }) ∧
      (mayTransmitIn s.node.state = false ∨ s.line.queue = .empty →
        exec .slotStart s = .next (s.setLine { s.line with access := .idle (k + 1) })) ∧
      ∀ (x : Queued) (rest : TxQueue) (slot : Nat), mayTransmitIn s.node.state = true → HeadOf s.line.queue rest x →
        ((∃ on, x.frame = .fog on) ∨ (∃ c, x.frame = .cue c) → slot = s.cfg.node.address / 2 ^ (x.attempt % 6) % 2) →
        (x.frame = .recall ∨ (∃ c, x.frame = .replay c) ∨ (∃ c, x.frame = .status c) →
          slot = 2 + ((if x.attempt % 2 = 0 then s.cfg.node.address % 8 else s.cfg.node.address / 8) ^^^
            (x.attempt / 2 % 8))) →
        (slot ≠ k % 10 → exec .slotStart s = .next (s.setLine { s.line with access := .idle (k + 1) })) ∧
        (slot = k % 10 → ∃ st, exec .slotStart s = .next (s.setLine { s.line with
            queue := rest, stage := some st, access := .sending }) ∧
          st.queued.attempt = x.attempt ∧ st.wire = st.queued.frame.toFrame s.cfg.node.address ∧
          (∀ c, x.frame = .status c → st.queued.frame = .status { c with fog := s.fog.own }) ∧
          ((∀ c, x.frame ≠ .status c) → st.queued.frame = x.frame))

/-- A collision and a disturbance of an attempt below number 15: the frame goes back to the queue with its attempt number raised by 1; a
collision leaves the score and goes on receiving, a disturbance raises the score by 8 and delivers nothing more (R42, R43, R48,
R53). -/
def Obligations.FailedAttemptsReturnTheFrame : Prop :=
  ∀ (s : State) (st : Staged), s.line.access = .sending → s.line.stage = some st → st.queued.attempt < 15 →
    (∃ q, exec .collision s = .next (s.setLine { s.line with stage := none, queue := q, access := .receiving }) ∧
      ReturnedTo s.line.queue q { st.queued with attempt := st.queued.attempt + 1 }) ∧
    ∃ t q, exec .disturbance s = .next t ∧ ScoredBad s t ∧
      t = (s.setLine { s.line with
        stage := none, queue := q, access := .disturbed, score := t.line.score, degraded := t.line.degraded }).setNode
          { s.node with causes := t.node.causes } ∧
      ReturnedTo s.line.queue q { st.queued with attempt := st.queued.attempt + 1 }

/-- A frame whose attempt at number 15 fails, by collision or by disturbance, is dropped: it leaves the stage and does not return to the
queue; a CUE without the replay mark raises CUE_DROPPED, a STATUS or a FOG FRAME_DROPPED, a RECALL or a replay nothing; the sequence
stays consumed, the FIRST marker stays set, and the origin's lighting stands (R45). The FRAME_DROP row is that step, and below number 15
it is no event (the model's choice, log entries 1 and 29). -/
def Obligations.SixteenthFailureDropsTheFrame : Prop :=
  ∀ (s : State) (st : Staged), s.line.access = .sending → s.line.stage = some st →
    (st.queued.attempt = 15 →
      ∀ how : AttemptFailure, ∃ t, exec (.frameDrop how) s = .next t ∧
        exec (match how with | .collision => .collision | .disturbance => .disturbance) s = exec (.frameDrop how) s ∧
        t.line.stage = none ∧ t.line.queue = s.line.queue ∧ t.line.ownSequence = s.line.ownSequence ∧ t.comp = s.comp ∧
        t.light = s.light ∧ t.gens = s.gens ∧ t.node.state = s.node.state ∧
        (∀ c, st.queued.frame = .cue c → t.node.causes[3] = s.node.causes[3] ∧
          t.node.causes[4] = { flag := true, count := min 255 ((s.node.causes[4]).count + 1) }) ∧
        ((∃ c, st.queued.frame = .status c) ∨ (∃ on, st.queued.frame = .fog on) →
          t.node.causes[4] = s.node.causes[4] ∧
            t.node.causes[3] = { flag := true, count := min 255 ((s.node.causes[3]).count + 1) }) ∧
        (st.queued.frame = .recall ∨ (∃ c, st.queued.frame = .replay c) →
          t.node.causes[3] = s.node.causes[3] ∧ t.node.causes[4] = s.node.causes[4]) ∧
        (how = .collision → t.line.score = s.line.score) ∧
        (how = .disturbance → t.line.score = min 255 (s.line.score + 8))) ∧
    (st.queued.attempt < 15 → ∀ how : AttemptFailure, exec (.frameDrop how) s = .next s)

/-- A whole send: the frame leaves the stage and the node, the score falls by 1, driving stops, and a STATUS carrying FIRST clears the
Status Composer's marker; the echo is neither judged nor delivered, so nothing else changes (R44). -/
def Obligations.WholeSendLeavesTheNode : Prop :=
  ∀ (s : State) (st : Staged), s.line.access = .sending → s.line.stage = some st →
    ∃ t, exec .wholeSend s = .next t ∧ ScoredGood s t ∧
      t = (s.setLine { s.line with
        stage := none, access := .closed, score := t.line.score, degraded := t.line.degraded }).setComp
          { s.comp with first := t.comp.first } ∧
      ((∃ c, st.queued.frame = .status c ∧ c.first = true) → t.comp.first = false) ∧
      ((∀ c, st.queued.frame = .status c → c.first = false) → t.comp.first = s.comp.first)

/-! ### The arena line: reception -/

/-- The check word bit by bit, the validity of a complete frame, and what an invalid frame and a fragment do: an invalid one, or a
reception cut short after the issue window, raises the score by 8; after a disturbance neither is scored; a reception cut short inside the
issue window is ignored (R38, R43, R50, R51, R53). The bounds of 18 and 304 bits of a reception cut short are the model's reading, log
entry 10, and that an invalid frame is not scored after a disturbance is log entry 9. -/
def Obligations.InvalidFramesAreScored : Prop :=
  (crc [] = 65535#16 ∧ ∀ (bits : Bits) (b : Bool),
    ((crc bits).getLsbD 15 = b → crc (bits ++ [b]) = crc bits <<< 1) ∧
    ((crc bits).getLsbD 15 ≠ b → crc (bits ++ [b]) = (crc bits <<< 1) ^^^ 4129#16)) ∧
  (∀ f : Frame, f.valid = true ↔
    f.elements.length = f.count.toNat ∧ f.check = crc f.coveredBits ∧ (1 ≤ f.sender.toNat ∧ f.sender.toNat ≤ 60) ∧
      (∀ (i : Nat) (e : Element), f.elements[i]? = some e →
        (e.endMark = true ↔ i + 1 = f.elements.length)) ∧
      (f.kind = .status → 2 ≤ f.count.toNat ∧ f.count.toNat ≤ 8 ∧ f.demandCount ≤ 4 ∧
        f.count.toNat = 2 + f.hasCap.toNat + f.hasRadiant.toNat + f.demandCount) ∧
      (f.kind = .cue → f.count.toNat = 3) ∧ (f.kind = .fog → f.count.toNat = 1) ∧ (f.kind = .recall → f.count.toNat = 0)) ∧
  ∀ s : State,
    (∀ r : BadReception, ((∃ f, r = .complete f ∧ f.elements.length = f.count.toNat ∧ f.valid = false) ∨
        ∃ bits, r = .cutShort bits ∧ 18 ≤ bits ∧ bits < 304) →
      (canReceive s = true → ∃ t, exec (.invalidFrame r) s = .next t ∧ ScoredBad s t ∧
        t = (s.setLine { s.line with access := .closed, score := t.line.score, degraded := t.line.degraded }).setNode
          { s.node with causes := t.node.causes }) ∧
      (operatingIn s.node.state = true → s.line.access = .disturbed →
        exec (.invalidFrame r) s = .next (s.setLine { s.line with access := .closed }))) ∧
    ∀ r : FragmentForm, (r = .badStartMark ∨ ∃ bits, r = .cutShort bits ∧ 1 ≤ bits ∧ bits < 18) → canReceive s = true →
      exec (.fragment r) s = .next (s.setLine { s.line with access := .closed })

/-- A stuck line raises LINE_STUCK in LISTEN, RUN and MUTE, and from LISTEN or RUN the node enters a stuck-line MUTE; the quiet timer of a
stuck-line MUTE returns it to LISTEN with a RECALL offered, and FOG_ON where the own fog state is FOG (R54, R56, R84, R105, R128). -/
def Obligations.StuckLineMutesAndQuietReturns : Prop :=
  ∀ s : State,
    (mayTransmitIn s.node.state = true →
      ∃ t, exec .stuckLine s = .next t ∧ MuteEntered s t .stuck ∧ CausesAfter s t 1 1 ∧ t.line.access = .closed ∧
        t.line.score = s.line.score ∧ t.line.degraded = s.line.degraded ∧ t.light = s.light ∧ RestStands s t) ∧
    (∀ k, s.node.state = .mute k →
      ∃ t, exec .stuckLine s = .next t ∧ CausesAfter s t 1 1 ∧
        t = (s.setLine { s.line with access := .closed }).setNode { s.node with causes := t.node.causes }) ∧
    (∀ k, s.node.state = .mute .stuck → s.line.access = .idle k →
      exec .stuckLineEnd s = .next ((((s.setNode { s.node with state := .listen }).setLine { s.line with
        access := .noRelease
        queue := { s.line.queue with
          recallPlace := some { frame := .recall, attempt := 0 }
          fogPlace := if s.fog.own = .fog then some { frame := .fog true, attempt := 0 } else s.line.queue.fogPlace } }).setComp
        { s.comp with expiryCount := 0 }).setLight { s.light with takeMarker := false })) ∧
    (s.node.state = .mute .clash → exec .stuckLineEnd s = .next s)

/-- A valid frame bearing the node's own address, received or read out after a disturbance, is a clash under any row of its kind:
ADDRESS_CLASH is raised, the score falls by 1, nothing is delivered, and LISTEN, RUN and both kinds of MUTE end in a clash MUTE
(R43, R52, R55, R56). That the row of the frame's kind and VALID_FRAME_OWN_ADDRESS are one event is the model's reading, log entry
11. -/
def Obligations.OwnAddressIsAClash : Prop :=
  ∀ (s : State) (f : Frame), f.valid = true → f.sender.toNat = s.cfg.node.address →
    (canReceive s = true ∨ (operatingIn s.node.state = true ∧ s.line.access = .disturbed)) →
    (∃ t, exec (.validFrameOwnAddress f) s = .next t ∧ ScoredGood s t ∧ CausesAfter s t 0 1 ∧ t.line.access = .closed ∧
      t.light = s.light ∧ RestStands s t ∧ (mayTransmitIn s.node.state = true → MuteEntered s t .clash) ∧
      ∀ k, s.node.state = .mute k →
        t.node.state = .mute .clash ∧ t.line.queue = s.line.queue ∧ t.line.stage = s.line.stage ∧ t.heat = s.heat ∧
          t.gens = s.gens ∧ t.comp = s.comp) ∧
    (f.kind = .status → exec (.statusReceived f) s = exec (.validFrameOwnAddress f) s) ∧
    (f.kind = .fog → exec (.fogReceived f) s = exec (.validFrameOwnAddress f) s) ∧
    (f.kind = .cue → f.replayMark = false → exec (.cueReceived f) s = exec (.validFrameOwnAddress f) s) ∧
    (f.kind = .cue → f.replayMark = true → exec (.replayReceived f) s = exec (.validFrameOwnAddress f) s) ∧
    (f.kind = .recall → exec (.recallReceived f) s = exec (.validFrameOwnAddress f) s)

/-- A frame formed from any content within its fields' ranges is valid, and reads back as that content (R37, R38, R51, R171, Tables 12-1
to 12-4). -/
def Obligations.FramesReadBackAsSent : Prop :=
  ∀ address : Nat, 1 ≤ address → address ≤ 60 →
    (∀ c : StatusContent, c.sequence ≤ 15 → c.period ≤ 7 → c.offer ≤ 65535 → (∀ x, c.cap = some x → x ≤ 65535) →
      (∀ x, c.radiant = some x → x ≤ 65535) → c.demands.length ≤ 4 → (∀ d ∈ c.demands, d.amount ≤ 4095) →
      ((TxFrame.status c).toFrame address).valid = true ∧ ((TxFrame.status c).toFrame address).kind = .status ∧
        ((TxFrame.status c).toFrame address).sender.toNat = address ∧
        ((TxFrame.status c).toFrame address).readStatus = some c) ∧
    (∀ on : Bool, ((TxFrame.fog on).toFrame address).valid = true ∧ ((TxFrame.fog on).toFrame address).kind = .fog ∧
      ((TxFrame.fog on).toFrame address).readFog = some on) ∧
    ((TxFrame.recall.toFrame address).valid = true ∧ (TxFrame.recall.toFrame address).kind = .recall) ∧
    ∀ c : Cue, c.number ≤ 255 → c.serial ≤ 255 → 1 ≤ c.origin → c.origin ≤ 60 → c.wait ≤ 600 → c.fade ≤ 600 →
      (c.origin = address → ((TxFrame.cue c).toFrame address).valid = true ∧
        ((TxFrame.cue c).toFrame address).replayMark = false ∧ ((TxFrame.cue c).toFrame address).readCue = some c) ∧
      ((TxFrame.replay c).toFrame address).valid = true ∧ ((TxFrame.replay c).toFrame address).replayMark = true ∧
        ((TxFrame.replay c).toFrame address).readCue = some c

/-! ### Ice Watch and Fog Guard -/

/-- One ice evaluation, step by step: margin or hold, flood, ice state, radiant total, predicted margin, settled radiant and cap; ICE_WARM
at each entry into WARM; the flood in view re-derived where the flood begins or ends. The rows FLOOD_END, ICE_WARM and ICE_HOLD_END are
the evaluations at which these happen (R59 to R69, R78). -/
def Obligations.IceEvaluationTakesItsSteps : Prop :=
  ∀ (s : State) (r : Reading), operatingIn s.node.state = true → readBinding s .iceSurface = some r →
    ∃ (t : State) (i : IceLive) (T : Nat) (S M P : Int), exec .iceEvaluation s = .next t ∧ t.ice = i ∧
      t = ((s.setIce i).setNode { s.node with causes := t.node.causes }).setFog
        { s.fog with floodInView := t.fog.floodInView } ∧
      T = s.light.radiant + (s.peers.map fun e => e.radiant.getD 0).sum ∧ S = s.ice.settled.getD T ∧ M = i.margin ∧
      P = i.predicted ∧
      (r.quality ≠ .failed → i.failureCount = 0 ∧
        M = max (-500) (min 500 (s.cfg.ice.ceiling s.light.phase - r.value)) ∧
        i.ring = (s.ice.ring ++ [r.value]).drop (s.ice.ring.length + 1 - 10) ∧
        i.floodTimer = (if s.ice.ring.length = 10 ∧ (s.light.phase = .interval ∨ s.light.phase = .idle) ∧
          s.cfg.ice.floodRise ≤ r.value - s.ice.ring.headD 0 then s.cfg.ice.floodTime else s.ice.floodTimer - 1)) ∧
      (r.quality = .failed → i.failureCount = min 61 (s.ice.failureCount + 1) ∧ M = s.ice.margin ∧ i.ring = [] ∧
        i.floodTimer = s.ice.floodTimer - 1) ∧
      (i.failureCount = 61 → i.warmRun = s.ice.warmRun ∧ i.state = s.ice.state) ∧
      (i.failureCount ≠ 61 →
        i.warmRun = (if M < 0 ∧ i.floodTimer = 0 then min 30 (s.ice.warmRun + 1) else 0) ∧
        (s.cfg.ice.watch ≤ M → i.state = .firm) ∧ (0 ≤ M → M < s.cfg.ice.watch → i.state = .soft) ∧
        (M < 0 → M < s.cfg.ice.watch → i.warmRun = 30 → i.state = .warm) ∧
        (M < 0 → M < s.cfg.ice.watch → i.warmRun < 30 → i.state = if s.ice.state = .warm then .warm else .soft)) ∧
      i.total = T ∧ P = max (-500) (min 500 (M - max 0 ((T : Int) - S) * s.cfg.ice.sensitivity / 1000)) ∧
      i.settled = some (S + Int.tdiv ((T : Int) - S) 32) ∧
      (i.failureCount = 61 ∨ i.state = .warm → i.cap = s.cfg.ice.floor) ∧
      (i.failureCount ≠ 61 → i.state ≠ .warm →
        (s.cfg.ice.upper ≤ P → i.cap = 1000) ∧ (P < s.cfg.ice.upper → P ≤ s.cfg.ice.lower → i.cap = s.cfg.ice.floor) ∧
        (P < s.cfg.ice.upper → s.cfg.ice.lower < P →
          (i.cap : Int) = s.cfg.ice.floor +
            (1000 - (s.cfg.ice.floor : Int)) * (P - s.cfg.ice.lower) / (s.cfg.ice.upper - s.cfg.ice.lower))) ∧
      CausesAfter s t 8 (if s.ice.state ≠ .warm ∧ i.state = .warm then 1 else 0) ∧
      ((0 < s.ice.floodTimer ↔ 0 < i.floodTimer) → t.fog = s.fog) ∧
      (¬(0 < s.ice.floodTimer ↔ 0 < i.floodTimer) →
        (t.fog.floodInView = true ↔ 0 < i.floodTimer ∨ ∃ e ∈ s.peers, e.flood = true)) ∧
      (s.ice.floodTimer = 1 →
        ¬(r.quality ≠ .failed ∧ s.ice.ring.length = 10 ∧ (s.light.phase = .interval ∨ s.light.phase = .idle) ∧
          s.cfg.ice.floodRise ≤ r.value - s.ice.ring.headD 0) →
        i.floodTimer = 0 ∧ exec .floodEnd s = exec .iceEvaluation s) ∧
      (s.ice.state ≠ .warm → i.state = .warm → exec .iceWarm s = exec .iceEvaluation s) ∧
      (r.quality = .failed → s.ice.failureCount = 60 → exec .iceHoldEnd s = exec .iceEvaluation s)

/-- The margin steps of a fog evaluation on any node: with a margin path, with or without a beam path, the dew point and the margin are
formed or held, the effective margin is under the flood allowance, and the hysteresis judgement with the unavailability floor gives the
margin state wherever the node is not leaving beam fog; without a margin path the margin fields stand and the margin state is CLEAR. On a
node without a beam path no frame, no cause and no beam field changes. The own state, and what follows E, are as R83 and R85 to R87 give
them. The MARGIN_UNAVAILABLE row is the evaluation at which the failure count reaches 61 (R74 to R79, R83, R85 to R87). -/
def Obligations.FogEvaluationJudgesTheMargin : Prop :=
  ∀ s : State, operatingIn s.node.state = true → FogLegal s →
    ∃ (t : State) (j : FogLevel), exec .fogEvaluation s = .next t ∧ t.peers = s.peers ∧
      (∀ bt rh il : Reading, readBinding s .bowlAirT = some bt → readBinding s .bowlAirRh = some rh →
        readBinding s .iceLayerAir = some il →
        (bt.quality ≠ .failed → rh.quality ≠ .failed → il.quality ≠ .failed →
          t.fog.failureCount = 0 ∧ t.fog.dewPoint = bt.value - (1000 - max 500 (min 1000 rh.value)) / 5 ∧
            t.fog.margin = max (-500) (min 500 (il.value - t.fog.dewPoint))) ∧
        (bt.quality = .failed ∨ rh.quality = .failed ∨ il.quality = .failed →
          t.fog.failureCount = min 61 (s.fog.failureCount + 1) ∧ t.fog.dewPoint = s.fog.dewPoint ∧
            t.fog.margin = s.fog.margin) ∧
        t.fog.effective = max (-500) (min 500 (t.fog.margin - if s.fog.floodInView then s.cfg.fog.allowance else 0)) ∧
        (s.fog.marginState = .clear →
          j = if t.fog.effective ≤ s.cfg.fog.act then .act else if t.fog.effective ≤ s.cfg.fog.watch then .watch
            else .clear) ∧
        (s.fog.marginState = .watch →
          j = if t.fog.effective ≤ s.cfg.fog.act then .act
            else if s.cfg.fog.watch + s.cfg.fog.hysteresis < t.fog.effective then .clear else .watch) ∧
        (s.fog.marginState = .act →
          j = if s.cfg.fog.watch + s.cfg.fog.hysteresis < t.fog.effective then .clear
            else if s.cfg.fog.act + s.cfg.fog.hysteresis < t.fog.effective then .watch else .act) ∧
        (s.fog.beamFog = false ∨ t.fog.beamFog = true →
          t.fog.marginState = if t.fog.failureCount = 61 ∧ j = .clear then .watch else j) ∧
        (bt.quality = .failed ∨ rh.quality = .failed ∨ il.quality = .failed → s.fog.failureCount = 60 →
          exec .marginUnavailable s = exec .fogEvaluation s)) ∧
      (bound s.cfg .bowlAirT = false ∨ bound s.cfg .bowlAirRh = false ∨ bound s.cfg .iceLayerAir = false →
        t.fog.marginState = .clear ∧ t.fog.dewPoint = s.fog.dewPoint ∧ t.fog.margin = s.fog.margin ∧
          t.fog.effective = s.fog.effective ∧ t.fog.failureCount = s.fog.failureCount) ∧
      (readBinding s .fogBeam = none →
        t.fog.beamFog = s.fog.beamFog ∧ t.fog.beamActive = s.fog.beamActive ∧ t.fog.belowRun = s.fog.belowRun ∧
          t.fog.clearRun = s.fog.clearRun ∧ t = s.setFog t.fog) ∧
      t.fog.floodInView = s.fog.floodInView ∧ t.fog.own = (if t.fog.beamFog then .fog else t.fog.marginState) ∧
      fogCode t.fog.own ≤ fogCode t.fog.effectiveLevel ∧
      (∀ e ∈ s.peers, fogCode e.fog ≤ fogCode t.fog.effectiveLevel) ∧
      (t.fog.effectiveLevel = t.fog.own ∨ ∃ e ∈ s.peers, e.fog = t.fog.effectiveLevel) ∧
      t.fog.regen = s.cfg.fog.regen t.fog.effectiveLevel ∧ t.fog.curtail = s.cfg.fog.curtail t.fog.effectiveLevel ∧
      (t.fog.fanDemand = true ↔ 2 ≤ fogCode t.fog.effectiveLevel)

/-- The beam step of a fog evaluation: the runs, the setting and clearing of beam fog, the judgement without hysteresis on leaving it, the
own state, FOG_VISIBLE at each setting, E at FOG with the fan on, and in LISTEN and RUN the FOG frame that the change calls for. The
rows BEAM_FOG_SET and BEAM_FOG_CLEAR are the evaluations at which these happen (R79 to R85, R87). -/
def Obligations.BeamFogIsSetAndCleared : Prop :=
  ∀ (s : State) (b : Reading), operatingIn s.node.state = true → FogLegal s → readBinding s .fogBeam = some b →
    ∃ t, exec .fogEvaluation s = .next t ∧
      t = ((s.setFog t.fog).setNode { s.node with causes := t.node.causes }).setLine
        { s.line with queue := { s.line.queue with fogPlace := t.line.queue.fogPlace } } ∧
      (b.quality = .failed → t.fog.beamActive = false ∧ t.fog.belowRun = 0 ∧ t.fog.clearRun = 0 ∧ t.fog.beamFog = false) ∧
      (b.quality ≠ .failed → t.fog.beamActive = true) ∧
      (b.quality ≠ .failed → s.fog.beamFog = false →
        (s.cfg.fog.beamThreshold ≤ b.value → t.fog.belowRun = 0 ∧ t.fog.beamFog = false) ∧
        (b.value < s.cfg.fog.beamThreshold → s.fog.belowRun + 1 < s.cfg.fog.beamHold →
          t.fog.belowRun = s.fog.belowRun + 1 ∧ t.fog.beamFog = false) ∧
        (b.value < s.cfg.fog.beamThreshold → s.cfg.fog.beamHold ≤ s.fog.belowRun + 1 →
          t.fog.beamFog = true ∧ t.fog.belowRun = 0 ∧ t.fog.clearRun = 0 ∧ t.fog.effectiveLevel = .fog ∧
            t.fog.fanDemand = true ∧ exec .beamFogSet s = exec .fogEvaluation s)) ∧
      (b.quality ≠ .failed → s.fog.beamFog = true →
        (b.value < s.cfg.fog.beamThreshold + s.cfg.fog.beamHysteresis →
          t.fog.clearRun = 0 ∧ t.fog.beamFog = true) ∧
        (s.cfg.fog.beamThreshold + s.cfg.fog.beamHysteresis ≤ b.value → s.fog.clearRun + 1 < s.cfg.fog.clearTime →
          t.fog.clearRun = s.fog.clearRun + 1 ∧ t.fog.beamFog = true) ∧
        (s.cfg.fog.beamThreshold + s.cfg.fog.beamHysteresis ≤ b.value → s.cfg.fog.clearTime ≤ s.fog.clearRun + 1 →
          t.fog.clearRun = 0 ∧ t.fog.beamFog = false ∧ exec .beamFogClear s = exec .fogEvaluation s)) ∧
      (s.fog.beamFog = true → t.fog.beamFog = false →
        (hasMarginPath s.cfg = false → t.fog.marginState = .clear) ∧
        (hasMarginPath s.cfg = true → t.fog.effective ≤ s.cfg.fog.act → t.fog.marginState = .act) ∧
        (hasMarginPath s.cfg = true → s.cfg.fog.act < t.fog.effective → t.fog.effective ≤ s.cfg.fog.watch →
          t.fog.marginState = .watch) ∧
        (hasMarginPath s.cfg = true → s.cfg.fog.act < t.fog.effective → s.cfg.fog.watch < t.fog.effective →
          t.fog.marginState = if t.fog.failureCount = 61 then .watch else .clear)) ∧
      t.fog.own = (if t.fog.beamFog then .fog else t.fog.marginState) ∧
      CausesAfter s t 9 (if s.fog.beamFog = false ∧ t.fog.beamFog = true then 1 else 0) ∧
      t.line.queue.fogPlace = (if mayTransmitIn s.node.state = true ∧ s.fog.beamFog ≠ t.fog.beamFog then
        some { frame := .fog t.fog.beamFog, attempt := 0 } else s.line.queue.fogPlace)

/-! ### Recovered heat -/

/-- The share evaluation over any view: each class in turn is granted in full or cut in proportion, and the three laws follow: no grant
above its demand, the grants within the offer, and a record short of its demand only where every later class receives zero (R103,
R104). -/
def Obligations.ShareEvaluationObeysItsLaws : Prop :=
  ∀ (offer : Nat) (records : List Demand) (T R : HeatClass → Nat),
    (∀ c, T c = ((records.filter fun d => decide (d.cls = c)).map fun d => d.amount).sum) →
    R .heave = offer → R .dry = (if T .heave ≤ R .heave then R .heave - T .heave else 0) →
    R .stand = (if T .dry ≤ R .dry then R .dry - T .dry else 0) →
    R .melt = (if T .stand ≤ R .stand then R .stand - T .stand else 0) →
    (∀ d ∈ records, grantOf offer records d =
      if T d.cls ≤ R d.cls then d.amount else d.amount * R d.cls / T d.cls) ∧
    (∀ d ∈ records, grantOf offer records d ≤ d.amount) ∧
    (records.map (grantOf offer records)).sum ≤ offer ∧
    ∀ d ∈ records, ∀ d' ∈ records, grantOf offer records d < d.amount → classField d.cls < classField d'.cls →
      grantOf offer records d' = 0

/-- Step 1 of a period expiry: the offer of a source by its three readings, each configured loop's demand by its class, reading and
failure timer with the temperature and the shortfall last read, in RUN its grant from the share evaluation over the node's view and
elsewhere 0, its duty, written to its valve generator, and the summary of the share evaluation (R93 to R103, R105, R106, R111). The
failure timer's advance at an expiry is the model's choice, log entry 6; that the flow and the drop are those read while a source input
reads FAILED is its reading, log entry 15, and so are the temperature and the shortfall while the loop's input does, log entry 16. -/
def Obligations.ExpiryComputesOfferDemandsAndDuties : Prop :=
  ∀ s : State, operatingIn s.node.state = true →
    ∃ (t : State) (offer : Nat) (records : List Demand), exec .statusPeriodExpiry s = .next t ∧
      offer = (if t.heat.offerDoubt then t.heat.offer / 2 else t.heat.offer) +
        (s.peers.map fun e => if e.stale then 0 else if e.offerDoubt then e.offer / 2 else e.offer).sum ∧
      records = ((List.finRange 4).filterMap fun m => (s.cfg.loops[m.val]).cls.map fun c =>
          { cls := c, loop := m, amount := (t.heat.loops[m.val]).demand,
            doubt := decide ((t.heat.loops[m.val]).kind ≠ .computed) }) ++ (s.peers.map fun e => e.demands).flatten ∧
      (∀ T R : HeatClass → Nat,
        (∀ c, T c = ((records.filter fun d => decide (d.cls = c)).map fun d => d.amount).sum) →
        R .heave = offer → R .dry = (if T .heave ≤ R .heave then R .heave - T .heave else 0) →
        R .stand = (if T .dry ≤ R .dry then R .dry - T .dry else 0) →
        R .melt = (if T .stand ≤ R .stand then R .stand - T .stand else 0) →
        (t.heat.summary.viewOffer = offer ∧ t.heat.summary.records = records.length ∧ t.heat.summary.t1 = T .heave ∧
          t.heat.summary.t2 = T .dry ∧ t.heat.summary.t3 = T .stand ∧ t.heat.summary.t4 = T .melt ∧
          t.heat.summary.remainder = if T .melt ≤ R .melt then R .melt - T .melt else 0) ∧
        (t.heat.summary.cut = none ↔ ∀ c, T c ≤ R c) ∧
        ∀ c, t.heat.summary.cut = some c ↔ R c < T c ∧ ∀ c', classField c' < classField c → T c' ≤ R c') ∧
      ((readBinding s .sourceSupplyT = none ∨ readBinding s .sourceReturnT = none ∨ readBinding s .sourceFlow = none) →
        t.heat.offer = 0 ∧ t.heat.offerDoubt = false) ∧
      (∀ x y q : Reading, readBinding s .sourceSupplyT = some x → readBinding s .sourceReturnT = some y →
        readBinding s .sourceFlow = some q → t.heat.flow = q.value ∧ t.heat.drop = x.value - y.value ∧
        (x.quality = .failed ∨ y.quality = .failed ∨ q.quality = .failed →
          t.heat.offer = 0 ∧ t.heat.offerDoubt = true) ∧
        (x.quality ≠ .failed → y.quality ≠ .failed → q.quality ≠ .failed →
          (x.value - y.value ≤ 0 → t.heat.rawOffer = 0) ∧
          (0 < x.value - y.value → 0 ≤ q.value →
            (t.heat.rawOffer : Int) = q.value * (x.value - y.value) * s.cfg.source.capacity / 10000) ∧
          t.heat.offer = min 6000 (t.heat.rawOffer * s.cfg.source.fraction / 1000) ∧
          (t.heat.offerDoubt = true ↔ x.quality = .doubt ∨ y.quality = .doubt ∨ q.quality = .doubt))) ∧
      (∀ (n : Fin 4) (l l' : LoopLive) (k : LoopConfig), s.heat.loops[n.val] = l → t.heat.loops[n.val] = l' →
        s.cfg.loops[n.val] = k →
        (k.cls = none → l' = { l with grant := 0 }) ∧
        (k.cls = some .dry → l'.demand = k.design * s.fog.regen / 1000 ∧ l'.kind = .computed ∧
          l'.temperature = l.temperature ∧ l'.shortfall = l.shortfall ∧ l'.failureTimer = l.failureTimer ∧ l'.held = l.held) ∧
        (∀ cls r, k.cls = some cls → cls ≠ .dry → readBinding s (.loopT n) = some r →
          l'.temperature = r.value ∧
          (r.quality ≠ .failed → l'.kind = (if r.quality = .good then .computed else .computedDoubt) ∧
            l'.failureTimer = none ∧ l'.held = l.held ∧
            l'.shortfall = max 0 (min (k.band : Int) (k.setpoint s.light.phase - r.value)) ∧
            ∀ d : Nat, 0 < k.band → (d : Int) = (k.design : Int) * l'.shortfall / k.band →
              l'.demand = if cls = .stand then d * s.fog.curtail / 1000 else d) ∧
          (r.quality = .failed → l'.shortfall = l.shortfall ∧
            (l.failureTimer = none →
              l'.failureTimer = some 0 ∧ l'.held = l.demand ∧ l'.demand = l.demand ∧ l'.kind = .held) ∧
            ∀ τ, l.failureTimer = some τ → l'.held = l.held ∧
              l'.failureTimer = some (min 60000 (τ + 250 * (s.cfg.node.period + 1))) ∧
              (τ + 250 * (s.cfg.node.period + 1) < 60000 → l'.demand = l.held ∧ l'.kind = .held) ∧
              (60000 ≤ τ + 250 * (s.cfg.node.period + 1) → l'.kind = .fallback ∧
                l'.demand = (if cls = .stand then min k.fallback k.design * s.fog.curtail / 1000
                  else min k.fallback k.design)))) ∧
        (s.node.state ≠ .run → l'.grant = 0) ∧
        (∀ cls, s.node.state = .run → k.cls = some cls →
          l'.grant = grantOf offer records
            { cls := cls, loop := n, amount := l'.demand, doubt := decide (l'.kind ≠ .computed) }) ∧
        (k.cls ≠ none → l'.duty = if k.design = 0 then 0 else l'.grant * 1000 / k.design) ∧
        l'.backup = l.backup ∧ l'.holdCount = l.holdCount ∧ l'.deficit = l.deficit) ∧
      ValvesWritten s t (fun n => (t.heat.loops[n.val]).duty) ∧ t.gens.dimmers = s.gens.dimmers

/-- A backup expiry judges every configured loop with a threshold above 0 by its deficit: the hold counts up to the backup hold and turns
the condition ON, which raises BACKUP_ON; it turns OFF below half the threshold. The BACKUP_ON row is the expiry at which a loop turns
on (R107 to R109). The LOOP_FALLBACK row puts a running failure timer at its end of 60 s (R99), which is the model's choice, log entry 6;
that a loop with a threshold of 0 keeps its deficit is its reading, log entry 34. -/
def Obligations.BackupStagesAreJudged : Prop :=
  ∀ s : State, operatingIn s.node.state = true →
    (∃ t turned, exec .backupExpiry s = .next t ∧
      t = (s.setHeat { s.heat with loops := t.heat.loops }).setNode { s.node with causes := t.node.causes } ∧
      CausesAfter s t 10 turned ∧
      turned = ((List.finRange 4).filter fun n =>
        decide ((s.heat.loops[n.val]).backup = false ∧ (t.heat.loops[n.val]).backup = true)).length ∧
      ∀ (n : Fin 4) (l l' : LoopLive) (k : LoopConfig), s.heat.loops[n.val] = l → t.heat.loops[n.val] = l' →
        s.cfg.loops[n.val] = k →
        (k.cls = none → l' = l) ∧
        (k.cls ≠ none → k.threshold = 0 → l' = { l with backup := false, holdCount := none }) ∧
        (k.cls ≠ none → 0 < k.threshold → l.backup = true →
          l' = { l with deficit := l.demand - l.grant, holdCount := none
                        backup := decide (k.threshold / 2 ≤ l.demand - l.grant) }) ∧
        (k.cls ≠ none → 0 < k.threshold → l.backup = false → l.demand - l.grant < k.threshold →
          l' = { l with deficit := l.demand - l.grant, holdCount := none }) ∧
        (k.cls ≠ none → l.backup = false → 0 < k.threshold → k.threshold ≤ l.demand - l.grant →
          ∀ count, count = (match l.holdCount with | none => 0 | some c => c + 1) →
            (count < k.hold → l' = { l with deficit := l.demand - l.grant, holdCount := some count }) ∧
            (k.hold ≤ count → l' = { l with deficit := l.demand - l.grant, holdCount := none, backup := true } ∧
              exec (.backupOn n) s = exec .backupExpiry s))) ∧
    ∀ (n : Fin 4) (τ : Nat), (s.heat.loops[n.val]).failureTimer = some τ → τ < 60000 →
      exec (.loopFallback n) s = .next (s.setHeat { s.heat with
        loops := setAt s.heat.loops n { s.heat.loops[n.val] with failureTimer := some 60000 } })

/-! ### Output generators -/

/-- A write to a RUNNING generator fills the inactive slot and sets the marker, one to an OFF generator starts it at that level. A period
start makes a written inactive slot active, starts the count at 0 and sets the output by the active level; the count that reaches a level
of 1 to 999 sets the output low, and no period ends before it; a strobe timer expiry counts down and at 0 changes between on-time and
off-time. No other generator and no other block changes (R133 to R136, R138). With no command waiting, each RUNNING generator's count
advances by 1 at its count time, up to the event that a row brings: the model's choice of when time passes, log entries 2 and 7. -/
def Obligations.GeneratorsStepTheirPeriods : Prop :=
  (∀ (g : Generator) (level : Nat),
    (g.running = true → g.active = .a → g.write level = { g with slotB := level, written := true }) ∧
    (g.running = true → g.active = .b → g.write level = { g with slotA := level, written := true }) ∧
    (g = .powerOn → g.write level =
      { g with running := true, slotB := level, active := .b, output := decide (0 < level) })) ∧
  ∀ s : State,
    (∀ (n : Fin 8) (d : Dimmer) (level : Nat), s.gens.dimmers[n.val] = d →
      level = (match d.gen.active with | .a => d.gen.slotA | .b => d.gen.slotB) →
      (d.gen.running = true → (level = 0 ∨ 1000 ≤ level ∨ level ≤ d.gen.count) → ∃ g : Generator,
        exec (.generatorPeriodStart (.dimmer n)) s = .next (s.setGens { s.gens with
          dimmers := setAt s.gens.dimmers n { d with gen := g } }) ∧
        g.running = true ∧ g.slotA = d.gen.slotA ∧ g.slotB = d.gen.slotB ∧ g.written = false ∧ g.count = 0 ∧ g.part = 0 ∧
        (g.active = d.gen.active ↔ d.gen.written = false) ∧ (g.active = .a → (g.output = true ↔ 0 < g.slotA)) ∧
        (g.active = .b → (g.output = true ↔ 0 < g.slotB))) ∧
      (d.gen.running = true → 0 < level → level < 1000 → d.gen.count < level →
        exec (.generatorCountReachesLevel (.dimmer n)) s = .next (s.setGens { s.gens with
          dimmers := setAt s.gens.dimmers n { d with gen := { d.gen with count := level, part := 0, output := false } } }) ∧
        exec (.generatorPeriodStart (.dimmer n)) s = .next s) ∧
      (s.pending = [] → d.gen.running = true → d.gen.part = 0 → ∃ t, step s = .next t ∧
        (d.gen.count + 1 = level ∨ 999 ≤ d.gen.count → level < 1000 ∨ 999 ≤ d.gen.count → t.gens.dimmers[n.val] = d) ∧
        (d.gen.count + 1 ≠ level → d.gen.count < 999 →
          t.gens.dimmers[n.val] = { d with gen := { d.gen with count := d.gen.count + 1 } })) ∧
      (d.strobe.active = true → ∃ x : Strobe,
        exec (.strobeTimerExpiry n) s = .next (s.setGens { s.gens with
          dimmers := setAt s.gens.dimmers n { d with strobe := x } }) ∧
        (1 < d.strobe.counter → x = { d.strobe with counter := d.strobe.counter - 1 }) ∧
        (d.strobe.counter = 1 → d.strobe.phase = .onTime →
          x = { d.strobe with phase := .offTime, counter := d.strobe.offWidth }) ∧
        (d.strobe.counter = 1 → d.strobe.phase = .offTime →
          x = { d.strobe with phase := .onTime, counter := d.strobe.onWidth }))) ∧
    ∀ (n : Fin 4) (v : Generator) (level : Nat), s.gens.valves[n.val] = v →
      level = (match v.active with | .a => v.slotA | .b => v.slotB) →
      (v.running = true → (level = 0 ∨ 1000 ≤ level ∨ level ≤ v.count) → ∃ g : Generator,
        exec (.generatorPeriodStart (.valve n)) s = .next (s.setGens { s.gens with valves := setAt s.gens.valves n g }) ∧
        g.running = true ∧ g.slotA = v.slotA ∧ g.slotB = v.slotB ∧ g.written = false ∧ g.count = 0 ∧ g.part = 0 ∧
        (g.active = v.active ↔ v.written = false) ∧ (g.active = .a → (g.output = true ↔ 0 < g.slotA)) ∧
        (g.active = .b → (g.output = true ↔ 0 < g.slotB))) ∧
      (v.running = true → 0 < level → level < 1000 → v.count < level →
        exec (.generatorCountReachesLevel (.valve n)) s = .next (s.setGens { s.gens with
          valves := setAt s.gens.valves n { v with count := level, part := 0, output := false } }) ∧
        exec (.generatorPeriodStart (.valve n)) s = .next s) ∧
      (s.pending = [] → v.running = true → ∃ t, step s = .next t ∧
        (v.part < 999 → t.gens.valves[n.val] = { v with part := v.part + 1 }) ∧
        (999 ≤ v.part → v.count + 1 = level → level < 1000 → t.gens.valves[n.val] = v) ∧
        (999 ≤ v.part → 999 ≤ v.count → t.gens.valves[n.val] = v) ∧
        (999 ≤ v.part → v.count + 1 ≠ level → v.count < 999 →
          t.gens.valves[n.val] = { v with count := v.count + 1, part := 0 }))

/-! ### Field pins and attention -/

/-- What every pin is driven at: nothing in UNSET or on an input function, and otherwise the function's logical level under its polarity,
driven both ways by PUSH_PULL and only low by OPEN_DRAIN; a DIMMER follows its gated output, ATTENTION the causes in the attention
mask. What every pin reads: the level it drives unless the board overpowers it, and on a released pin the level held there, or high by an
acting pull-up (R140, R146, R147, R160). What the board and the outside hold is the model's input, log entry 19; the level of a released
pin that nothing holds or pulls up is free, log entry 4. -/
def Obligations.PinsDriveTheirFunctions : Prop :=
  ∀ (s : State) (n : Fin 24) (c : PinConfig), s.cfg.pins[n.val] = c →
    (s.pins.board[n.val] = .forcedLow → rawLevel s n = false) ∧ (s.pins.board[n.val] = .forcedHigh → rawLevel s n = true) ∧
    (∀ level, pinDrive s n = some level → s.pins.board[n.val] ≠ .forcedLow → s.pins.board[n.val] ≠ .forcedHigh →
      rawLevel s n = level) ∧
    (pinDrive s n = none → s.pins.board[n.val] = .low → rawLevel s n = false) ∧
    (pinDrive s n = none → s.pins.board[n.val] = .high → rawLevel s n = true) ∧
    (s.node.state ≠ .unset → (c.function = .input ∨ ∃ i, c.function = .cueIn i) → c.pullUp = true →
      s.pins.board[n.val] = .opened → rawLevel s n = true) ∧
    (s.node.state = .unset → pinDrive s n = none) ∧
    (c.function = .input ∨ (∃ i, c.function = .cueIn i) → pinDrive s n = none) ∧
    ∀ level high : Bool, s.node.state ≠ .unset →
      ((∃ i, c.function = .dimmer i ∧ (level = true ↔ (s.gens.dimmers[i.val]).gen.output = true ∧
          ¬((s.gens.dimmers[i.val]).strobe.active = true ∧ (s.gens.dimmers[i.val]).strobe.phase = .offTime))) ∨
        (∃ i, c.function = .valve i ∧ level = (s.gens.valves[i.val]).output) ∨
        (∃ i, c.function = .backup i ∧ level = (s.heat.loops[i.val]).backup) ∨
        (c.function = .fan ∧ level = s.fog.fanDemand) ∨
        (c.function = .attention ∧
          (level = true ↔ ∃ i : Fin 12, s.cfg.node.mask.getLsbD i.val = true ∧ (s.node.causes[i.val]).flag = true)) ∨
        (c.function = .outHigh ∧ level = true) ∨ (c.function = .outLow ∧ level = false)) →
      (c.polarity = .normal → high = level) → (c.polarity = .inverted → high = !level) →
      (c.drive = .pushPull → pinDrive s n = some high) ∧
      (c.drive = .openDrain → pinDrive s n = if high then none else some false)
end

