-- ==== Sys2Proof/Laws/State.lean ====
section
/-!
SUPPORT. What each named update of the state sets and leaves alone: one lemma for each field under each update, and an update by
the value that stands.
-/
namespace Sys2Proof.Machine

@[simp] theorem State.setCfg_cfg (s : State) (x : Configuration) : (s.setCfg x).cfg = x := rfl
@[simp] theorem State.setCfg_meas (s : State) (x : Configuration) : (s.setCfg x).meas = s.meas := rfl
@[simp] theorem State.setCfg_comp (s : State) (x : Configuration) : (s.setCfg x).comp = s.comp := rfl
@[simp] theorem State.setCfg_peers (s : State) (x : Configuration) : (s.setCfg x).peers = s.peers := rfl
@[simp] theorem State.setCfg_line (s : State) (x : Configuration) : (s.setCfg x).line = s.line := rfl
@[simp] theorem State.setCfg_ice (s : State) (x : Configuration) : (s.setCfg x).ice = s.ice := rfl
@[simp] theorem State.setCfg_fog (s : State) (x : Configuration) : (s.setCfg x).fog = s.fog := rfl
@[simp] theorem State.setCfg_heat (s : State) (x : Configuration) : (s.setCfg x).heat = s.heat := rfl
@[simp] theorem State.setCfg_light (s : State) (x : Configuration) : (s.setCfg x).light = s.light := rfl
@[simp] theorem State.setCfg_gens (s : State) (x : Configuration) : (s.setCfg x).gens = s.gens := rfl
@[simp] theorem State.setCfg_pins (s : State) (x : Configuration) : (s.setCfg x).pins = s.pins := rfl
@[simp] theorem State.setCfg_node (s : State) (x : Configuration) : (s.setCfg x).node = s.node := rfl
@[simp] theorem State.setCfg_port (s : State) (x : Configuration) : (s.setCfg x).port = s.port := rfl
@[simp] theorem State.setCfg_resetHeld (s : State) (x : Configuration) : (s.setCfg x).resetHeld = s.resetHeld := rfl
@[simp] theorem State.setCfg_freeCount (s : State) (x : Configuration) : (s.setCfg x).freeCount = s.freeCount := rfl
@[simp] theorem State.setCfg_pending (s : State) (x : Configuration) : (s.setCfg x).pending = s.pending := rfl
@[simp] theorem State.setCfg_self (s : State) : s.setCfg s.cfg = s := rfl
@[simp] theorem State.setCfg_setCfg (s : State) (x y : Configuration) : (s.setCfg x).setCfg y = s.setCfg y := rfl

@[simp] theorem State.setMeas_cfg (s : State) (x : Measurement) : (s.setMeas x).cfg = s.cfg := rfl
@[simp] theorem State.setMeas_meas (s : State) (x : Measurement) : (s.setMeas x).meas = x := rfl
@[simp] theorem State.setMeas_comp (s : State) (x : Measurement) : (s.setMeas x).comp = s.comp := rfl
@[simp] theorem State.setMeas_peers (s : State) (x : Measurement) : (s.setMeas x).peers = s.peers := rfl
@[simp] theorem State.setMeas_line (s : State) (x : Measurement) : (s.setMeas x).line = s.line := rfl
@[simp] theorem State.setMeas_ice (s : State) (x : Measurement) : (s.setMeas x).ice = s.ice := rfl
@[simp] theorem State.setMeas_fog (s : State) (x : Measurement) : (s.setMeas x).fog = s.fog := rfl
@[simp] theorem State.setMeas_heat (s : State) (x : Measurement) : (s.setMeas x).heat = s.heat := rfl
@[simp] theorem State.setMeas_light (s : State) (x : Measurement) : (s.setMeas x).light = s.light := rfl
@[simp] theorem State.setMeas_gens (s : State) (x : Measurement) : (s.setMeas x).gens = s.gens := rfl
@[simp] theorem State.setMeas_pins (s : State) (x : Measurement) : (s.setMeas x).pins = s.pins := rfl
@[simp] theorem State.setMeas_node (s : State) (x : Measurement) : (s.setMeas x).node = s.node := rfl
@[simp] theorem State.setMeas_port (s : State) (x : Measurement) : (s.setMeas x).port = s.port := rfl
@[simp] theorem State.setMeas_resetHeld (s : State) (x : Measurement) : (s.setMeas x).resetHeld = s.resetHeld := rfl
@[simp] theorem State.setMeas_freeCount (s : State) (x : Measurement) : (s.setMeas x).freeCount = s.freeCount := rfl
@[simp] theorem State.setMeas_pending (s : State) (x : Measurement) : (s.setMeas x).pending = s.pending := rfl
@[simp] theorem State.setMeas_self (s : State) : s.setMeas s.meas = s := rfl
@[simp] theorem State.setMeas_setMeas (s : State) (x y : Measurement) : (s.setMeas x).setMeas y = s.setMeas y := rfl

@[simp] theorem State.setComp_cfg (s : State) (x : Composer) : (s.setComp x).cfg = s.cfg := rfl
@[simp] theorem State.setComp_meas (s : State) (x : Composer) : (s.setComp x).meas = s.meas := rfl
@[simp] theorem State.setComp_comp (s : State) (x : Composer) : (s.setComp x).comp = x := rfl
@[simp] theorem State.setComp_peers (s : State) (x : Composer) : (s.setComp x).peers = s.peers := rfl
@[simp] theorem State.setComp_line (s : State) (x : Composer) : (s.setComp x).line = s.line := rfl
@[simp] theorem State.setComp_ice (s : State) (x : Composer) : (s.setComp x).ice = s.ice := rfl
@[simp] theorem State.setComp_fog (s : State) (x : Composer) : (s.setComp x).fog = s.fog := rfl
@[simp] theorem State.setComp_heat (s : State) (x : Composer) : (s.setComp x).heat = s.heat := rfl
@[simp] theorem State.setComp_light (s : State) (x : Composer) : (s.setComp x).light = s.light := rfl
@[simp] theorem State.setComp_gens (s : State) (x : Composer) : (s.setComp x).gens = s.gens := rfl
@[simp] theorem State.setComp_pins (s : State) (x : Composer) : (s.setComp x).pins = s.pins := rfl
@[simp] theorem State.setComp_node (s : State) (x : Composer) : (s.setComp x).node = s.node := rfl
@[simp] theorem State.setComp_port (s : State) (x : Composer) : (s.setComp x).port = s.port := rfl
@[simp] theorem State.setComp_resetHeld (s : State) (x : Composer) : (s.setComp x).resetHeld = s.resetHeld := rfl
@[simp] theorem State.setComp_freeCount (s : State) (x : Composer) : (s.setComp x).freeCount = s.freeCount := rfl
@[simp] theorem State.setComp_pending (s : State) (x : Composer) : (s.setComp x).pending = s.pending := rfl
@[simp] theorem State.setComp_self (s : State) : s.setComp s.comp = s := rfl
@[simp] theorem State.setComp_setComp (s : State) (x y : Composer) : (s.setComp x).setComp y = s.setComp y := rfl

@[simp] theorem State.setPeers_cfg (s : State) (x : List PeerEntry) : (s.setPeers x).cfg = s.cfg := rfl
@[simp] theorem State.setPeers_meas (s : State) (x : List PeerEntry) : (s.setPeers x).meas = s.meas := rfl
@[simp] theorem State.setPeers_comp (s : State) (x : List PeerEntry) : (s.setPeers x).comp = s.comp := rfl
@[simp] theorem State.setPeers_peers (s : State) (x : List PeerEntry) : (s.setPeers x).peers = x := rfl
@[simp] theorem State.setPeers_line (s : State) (x : List PeerEntry) : (s.setPeers x).line = s.line := rfl
@[simp] theorem State.setPeers_ice (s : State) (x : List PeerEntry) : (s.setPeers x).ice = s.ice := rfl
@[simp] theorem State.setPeers_fog (s : State) (x : List PeerEntry) : (s.setPeers x).fog = s.fog := rfl
@[simp] theorem State.setPeers_heat (s : State) (x : List PeerEntry) : (s.setPeers x).heat = s.heat := rfl
@[simp] theorem State.setPeers_light (s : State) (x : List PeerEntry) : (s.setPeers x).light = s.light := rfl
@[simp] theorem State.setPeers_gens (s : State) (x : List PeerEntry) : (s.setPeers x).gens = s.gens := rfl
@[simp] theorem State.setPeers_pins (s : State) (x : List PeerEntry) : (s.setPeers x).pins = s.pins := rfl
@[simp] theorem State.setPeers_node (s : State) (x : List PeerEntry) : (s.setPeers x).node = s.node := rfl
@[simp] theorem State.setPeers_port (s : State) (x : List PeerEntry) : (s.setPeers x).port = s.port := rfl
@[simp] theorem State.setPeers_resetHeld (s : State) (x : List PeerEntry) : (s.setPeers x).resetHeld = s.resetHeld := rfl
@[simp] theorem State.setPeers_freeCount (s : State) (x : List PeerEntry) : (s.setPeers x).freeCount = s.freeCount := rfl
@[simp] theorem State.setPeers_pending (s : State) (x : List PeerEntry) : (s.setPeers x).pending = s.pending := rfl
@[simp] theorem State.setPeers_self (s : State) : s.setPeers s.peers = s := rfl
@[simp] theorem State.setPeers_setPeers (s : State) (x y : List PeerEntry) : (s.setPeers x).setPeers y = s.setPeers y := rfl

@[simp] theorem State.setLine_cfg (s : State) (x : LineInterface) : (s.setLine x).cfg = s.cfg := rfl
@[simp] theorem State.setLine_meas (s : State) (x : LineInterface) : (s.setLine x).meas = s.meas := rfl
@[simp] theorem State.setLine_comp (s : State) (x : LineInterface) : (s.setLine x).comp = s.comp := rfl
@[simp] theorem State.setLine_peers (s : State) (x : LineInterface) : (s.setLine x).peers = s.peers := rfl
@[simp] theorem State.setLine_line (s : State) (x : LineInterface) : (s.setLine x).line = x := rfl
@[simp] theorem State.setLine_ice (s : State) (x : LineInterface) : (s.setLine x).ice = s.ice := rfl
@[simp] theorem State.setLine_fog (s : State) (x : LineInterface) : (s.setLine x).fog = s.fog := rfl
@[simp] theorem State.setLine_heat (s : State) (x : LineInterface) : (s.setLine x).heat = s.heat := rfl
@[simp] theorem State.setLine_light (s : State) (x : LineInterface) : (s.setLine x).light = s.light := rfl
@[simp] theorem State.setLine_gens (s : State) (x : LineInterface) : (s.setLine x).gens = s.gens := rfl
@[simp] theorem State.setLine_pins (s : State) (x : LineInterface) : (s.setLine x).pins = s.pins := rfl
@[simp] theorem State.setLine_node (s : State) (x : LineInterface) : (s.setLine x).node = s.node := rfl
@[simp] theorem State.setLine_port (s : State) (x : LineInterface) : (s.setLine x).port = s.port := rfl
@[simp] theorem State.setLine_resetHeld (s : State) (x : LineInterface) : (s.setLine x).resetHeld = s.resetHeld := rfl
@[simp] theorem State.setLine_freeCount (s : State) (x : LineInterface) : (s.setLine x).freeCount = s.freeCount := rfl
@[simp] theorem State.setLine_pending (s : State) (x : LineInterface) : (s.setLine x).pending = s.pending := rfl
@[simp] theorem State.setLine_self (s : State) : s.setLine s.line = s := rfl
@[simp] theorem State.setLine_setLine (s : State) (x y : LineInterface) : (s.setLine x).setLine y = s.setLine y := rfl

@[simp] theorem State.setIce_cfg (s : State) (x : IceLive) : (s.setIce x).cfg = s.cfg := rfl
@[simp] theorem State.setIce_meas (s : State) (x : IceLive) : (s.setIce x).meas = s.meas := rfl
@[simp] theorem State.setIce_comp (s : State) (x : IceLive) : (s.setIce x).comp = s.comp := rfl
@[simp] theorem State.setIce_peers (s : State) (x : IceLive) : (s.setIce x).peers = s.peers := rfl
@[simp] theorem State.setIce_line (s : State) (x : IceLive) : (s.setIce x).line = s.line := rfl
@[simp] theorem State.setIce_ice (s : State) (x : IceLive) : (s.setIce x).ice = x := rfl
@[simp] theorem State.setIce_fog (s : State) (x : IceLive) : (s.setIce x).fog = s.fog := rfl
@[simp] theorem State.setIce_heat (s : State) (x : IceLive) : (s.setIce x).heat = s.heat := rfl
@[simp] theorem State.setIce_light (s : State) (x : IceLive) : (s.setIce x).light = s.light := rfl
@[simp] theorem State.setIce_gens (s : State) (x : IceLive) : (s.setIce x).gens = s.gens := rfl
@[simp] theorem State.setIce_pins (s : State) (x : IceLive) : (s.setIce x).pins = s.pins := rfl
@[simp] theorem State.setIce_node (s : State) (x : IceLive) : (s.setIce x).node = s.node := rfl
@[simp] theorem State.setIce_port (s : State) (x : IceLive) : (s.setIce x).port = s.port := rfl
@[simp] theorem State.setIce_resetHeld (s : State) (x : IceLive) : (s.setIce x).resetHeld = s.resetHeld := rfl
@[simp] theorem State.setIce_freeCount (s : State) (x : IceLive) : (s.setIce x).freeCount = s.freeCount := rfl
@[simp] theorem State.setIce_pending (s : State) (x : IceLive) : (s.setIce x).pending = s.pending := rfl
@[simp] theorem State.setIce_self (s : State) : s.setIce s.ice = s := rfl
@[simp] theorem State.setIce_setIce (s : State) (x y : IceLive) : (s.setIce x).setIce y = s.setIce y := rfl

@[simp] theorem State.setFog_cfg (s : State) (x : FogLive) : (s.setFog x).cfg = s.cfg := rfl
@[simp] theorem State.setFog_meas (s : State) (x : FogLive) : (s.setFog x).meas = s.meas := rfl
@[simp] theorem State.setFog_comp (s : State) (x : FogLive) : (s.setFog x).comp = s.comp := rfl
@[simp] theorem State.setFog_peers (s : State) (x : FogLive) : (s.setFog x).peers = s.peers := rfl
@[simp] theorem State.setFog_line (s : State) (x : FogLive) : (s.setFog x).line = s.line := rfl
@[simp] theorem State.setFog_ice (s : State) (x : FogLive) : (s.setFog x).ice = s.ice := rfl
@[simp] theorem State.setFog_fog (s : State) (x : FogLive) : (s.setFog x).fog = x := rfl
@[simp] theorem State.setFog_heat (s : State) (x : FogLive) : (s.setFog x).heat = s.heat := rfl
@[simp] theorem State.setFog_light (s : State) (x : FogLive) : (s.setFog x).light = s.light := rfl
@[simp] theorem State.setFog_gens (s : State) (x : FogLive) : (s.setFog x).gens = s.gens := rfl
@[simp] theorem State.setFog_pins (s : State) (x : FogLive) : (s.setFog x).pins = s.pins := rfl
@[simp] theorem State.setFog_node (s : State) (x : FogLive) : (s.setFog x).node = s.node := rfl
@[simp] theorem State.setFog_port (s : State) (x : FogLive) : (s.setFog x).port = s.port := rfl
@[simp] theorem State.setFog_resetHeld (s : State) (x : FogLive) : (s.setFog x).resetHeld = s.resetHeld := rfl
@[simp] theorem State.setFog_freeCount (s : State) (x : FogLive) : (s.setFog x).freeCount = s.freeCount := rfl
@[simp] theorem State.setFog_pending (s : State) (x : FogLive) : (s.setFog x).pending = s.pending := rfl
@[simp] theorem State.setFog_self (s : State) : s.setFog s.fog = s := rfl
@[simp] theorem State.setFog_setFog (s : State) (x y : FogLive) : (s.setFog x).setFog y = s.setFog y := rfl

@[simp] theorem State.setHeat_cfg (s : State) (x : HeatLive) : (s.setHeat x).cfg = s.cfg := rfl
@[simp] theorem State.setHeat_meas (s : State) (x : HeatLive) : (s.setHeat x).meas = s.meas := rfl
@[simp] theorem State.setHeat_comp (s : State) (x : HeatLive) : (s.setHeat x).comp = s.comp := rfl
@[simp] theorem State.setHeat_peers (s : State) (x : HeatLive) : (s.setHeat x).peers = s.peers := rfl
@[simp] theorem State.setHeat_line (s : State) (x : HeatLive) : (s.setHeat x).line = s.line := rfl
@[simp] theorem State.setHeat_ice (s : State) (x : HeatLive) : (s.setHeat x).ice = s.ice := rfl
@[simp] theorem State.setHeat_fog (s : State) (x : HeatLive) : (s.setHeat x).fog = s.fog := rfl
@[simp] theorem State.setHeat_heat (s : State) (x : HeatLive) : (s.setHeat x).heat = x := rfl
@[simp] theorem State.setHeat_light (s : State) (x : HeatLive) : (s.setHeat x).light = s.light := rfl
@[simp] theorem State.setHeat_gens (s : State) (x : HeatLive) : (s.setHeat x).gens = s.gens := rfl
@[simp] theorem State.setHeat_pins (s : State) (x : HeatLive) : (s.setHeat x).pins = s.pins := rfl
@[simp] theorem State.setHeat_node (s : State) (x : HeatLive) : (s.setHeat x).node = s.node := rfl
@[simp] theorem State.setHeat_port (s : State) (x : HeatLive) : (s.setHeat x).port = s.port := rfl
@[simp] theorem State.setHeat_resetHeld (s : State) (x : HeatLive) : (s.setHeat x).resetHeld = s.resetHeld := rfl
@[simp] theorem State.setHeat_freeCount (s : State) (x : HeatLive) : (s.setHeat x).freeCount = s.freeCount := rfl
@[simp] theorem State.setHeat_pending (s : State) (x : HeatLive) : (s.setHeat x).pending = s.pending := rfl
@[simp] theorem State.setHeat_self (s : State) : s.setHeat s.heat = s := rfl
@[simp] theorem State.setHeat_setHeat (s : State) (x y : HeatLive) : (s.setHeat x).setHeat y = s.setHeat y := rfl

@[simp] theorem State.setLight_cfg (s : State) (x : LightLive) : (s.setLight x).cfg = s.cfg := rfl
@[simp] theorem State.setLight_meas (s : State) (x : LightLive) : (s.setLight x).meas = s.meas := rfl
@[simp] theorem State.setLight_comp (s : State) (x : LightLive) : (s.setLight x).comp = s.comp := rfl
@[simp] theorem State.setLight_peers (s : State) (x : LightLive) : (s.setLight x).peers = s.peers := rfl
@[simp] theorem State.setLight_line (s : State) (x : LightLive) : (s.setLight x).line = s.line := rfl
@[simp] theorem State.setLight_ice (s : State) (x : LightLive) : (s.setLight x).ice = s.ice := rfl
@[simp] theorem State.setLight_fog (s : State) (x : LightLive) : (s.setLight x).fog = s.fog := rfl
@[simp] theorem State.setLight_heat (s : State) (x : LightLive) : (s.setLight x).heat = s.heat := rfl
@[simp] theorem State.setLight_light (s : State) (x : LightLive) : (s.setLight x).light = x := rfl
@[simp] theorem State.setLight_gens (s : State) (x : LightLive) : (s.setLight x).gens = s.gens := rfl
@[simp] theorem State.setLight_pins (s : State) (x : LightLive) : (s.setLight x).pins = s.pins := rfl
@[simp] theorem State.setLight_node (s : State) (x : LightLive) : (s.setLight x).node = s.node := rfl
@[simp] theorem State.setLight_port (s : State) (x : LightLive) : (s.setLight x).port = s.port := rfl
@[simp] theorem State.setLight_resetHeld (s : State) (x : LightLive) : (s.setLight x).resetHeld = s.resetHeld := rfl
@[simp] theorem State.setLight_freeCount (s : State) (x : LightLive) : (s.setLight x).freeCount = s.freeCount := rfl
@[simp] theorem State.setLight_pending (s : State) (x : LightLive) : (s.setLight x).pending = s.pending := rfl
@[simp] theorem State.setLight_self (s : State) : s.setLight s.light = s := rfl
@[simp] theorem State.setLight_setLight (s : State) (x y : LightLive) : (s.setLight x).setLight y = s.setLight y := rfl

@[simp] theorem State.setGens_cfg (s : State) (x : Generators) : (s.setGens x).cfg = s.cfg := rfl
@[simp] theorem State.setGens_meas (s : State) (x : Generators) : (s.setGens x).meas = s.meas := rfl
@[simp] theorem State.setGens_comp (s : State) (x : Generators) : (s.setGens x).comp = s.comp := rfl
@[simp] theorem State.setGens_peers (s : State) (x : Generators) : (s.setGens x).peers = s.peers := rfl
@[simp] theorem State.setGens_line (s : State) (x : Generators) : (s.setGens x).line = s.line := rfl
@[simp] theorem State.setGens_ice (s : State) (x : Generators) : (s.setGens x).ice = s.ice := rfl
@[simp] theorem State.setGens_fog (s : State) (x : Generators) : (s.setGens x).fog = s.fog := rfl
@[simp] theorem State.setGens_heat (s : State) (x : Generators) : (s.setGens x).heat = s.heat := rfl
@[simp] theorem State.setGens_light (s : State) (x : Generators) : (s.setGens x).light = s.light := rfl
@[simp] theorem State.setGens_gens (s : State) (x : Generators) : (s.setGens x).gens = x := rfl
@[simp] theorem State.setGens_pins (s : State) (x : Generators) : (s.setGens x).pins = s.pins := rfl
@[simp] theorem State.setGens_node (s : State) (x : Generators) : (s.setGens x).node = s.node := rfl
@[simp] theorem State.setGens_port (s : State) (x : Generators) : (s.setGens x).port = s.port := rfl
@[simp] theorem State.setGens_resetHeld (s : State) (x : Generators) : (s.setGens x).resetHeld = s.resetHeld := rfl
@[simp] theorem State.setGens_freeCount (s : State) (x : Generators) : (s.setGens x).freeCount = s.freeCount := rfl
@[simp] theorem State.setGens_pending (s : State) (x : Generators) : (s.setGens x).pending = s.pending := rfl
@[simp] theorem State.setGens_self (s : State) : s.setGens s.gens = s := rfl
@[simp] theorem State.setGens_setGens (s : State) (x y : Generators) : (s.setGens x).setGens y = s.setGens y := rfl

@[simp] theorem State.setPins_cfg (s : State) (x : FieldPins) : (s.setPins x).cfg = s.cfg := rfl
@[simp] theorem State.setPins_meas (s : State) (x : FieldPins) : (s.setPins x).meas = s.meas := rfl
@[simp] theorem State.setPins_comp (s : State) (x : FieldPins) : (s.setPins x).comp = s.comp := rfl
@[simp] theorem State.setPins_peers (s : State) (x : FieldPins) : (s.setPins x).peers = s.peers := rfl
@[simp] theorem State.setPins_line (s : State) (x : FieldPins) : (s.setPins x).line = s.line := rfl
@[simp] theorem State.setPins_ice (s : State) (x : FieldPins) : (s.setPins x).ice = s.ice := rfl
@[simp] theorem State.setPins_fog (s : State) (x : FieldPins) : (s.setPins x).fog = s.fog := rfl
@[simp] theorem State.setPins_heat (s : State) (x : FieldPins) : (s.setPins x).heat = s.heat := rfl
@[simp] theorem State.setPins_light (s : State) (x : FieldPins) : (s.setPins x).light = s.light := rfl
@[simp] theorem State.setPins_gens (s : State) (x : FieldPins) : (s.setPins x).gens = s.gens := rfl
@[simp] theorem State.setPins_pins (s : State) (x : FieldPins) : (s.setPins x).pins = x := rfl
@[simp] theorem State.setPins_node (s : State) (x : FieldPins) : (s.setPins x).node = s.node := rfl
@[simp] theorem State.setPins_port (s : State) (x : FieldPins) : (s.setPins x).port = s.port := rfl
@[simp] theorem State.setPins_resetHeld (s : State) (x : FieldPins) : (s.setPins x).resetHeld = s.resetHeld := rfl
@[simp] theorem State.setPins_freeCount (s : State) (x : FieldPins) : (s.setPins x).freeCount = s.freeCount := rfl
@[simp] theorem State.setPins_pending (s : State) (x : FieldPins) : (s.setPins x).pending = s.pending := rfl
@[simp] theorem State.setPins_self (s : State) : s.setPins s.pins = s := rfl
@[simp] theorem State.setPins_setPins (s : State) (x y : FieldPins) : (s.setPins x).setPins y = s.setPins y := rfl

@[simp] theorem State.setNode_cfg (s : State) (x : NodeControl) : (s.setNode x).cfg = s.cfg := rfl
@[simp] theorem State.setNode_meas (s : State) (x : NodeControl) : (s.setNode x).meas = s.meas := rfl
@[simp] theorem State.setNode_comp (s : State) (x : NodeControl) : (s.setNode x).comp = s.comp := rfl
@[simp] theorem State.setNode_peers (s : State) (x : NodeControl) : (s.setNode x).peers = s.peers := rfl
@[simp] theorem State.setNode_line (s : State) (x : NodeControl) : (s.setNode x).line = s.line := rfl
@[simp] theorem State.setNode_ice (s : State) (x : NodeControl) : (s.setNode x).ice = s.ice := rfl
@[simp] theorem State.setNode_fog (s : State) (x : NodeControl) : (s.setNode x).fog = s.fog := rfl
@[simp] theorem State.setNode_heat (s : State) (x : NodeControl) : (s.setNode x).heat = s.heat := rfl
@[simp] theorem State.setNode_light (s : State) (x : NodeControl) : (s.setNode x).light = s.light := rfl
@[simp] theorem State.setNode_gens (s : State) (x : NodeControl) : (s.setNode x).gens = s.gens := rfl
@[simp] theorem State.setNode_pins (s : State) (x : NodeControl) : (s.setNode x).pins = s.pins := rfl
@[simp] theorem State.setNode_node (s : State) (x : NodeControl) : (s.setNode x).node = x := rfl
@[simp] theorem State.setNode_port (s : State) (x : NodeControl) : (s.setNode x).port = s.port := rfl
@[simp] theorem State.setNode_resetHeld (s : State) (x : NodeControl) : (s.setNode x).resetHeld = s.resetHeld := rfl
@[simp] theorem State.setNode_freeCount (s : State) (x : NodeControl) : (s.setNode x).freeCount = s.freeCount := rfl
@[simp] theorem State.setNode_pending (s : State) (x : NodeControl) : (s.setNode x).pending = s.pending := rfl
@[simp] theorem State.setNode_self (s : State) : s.setNode s.node = s := rfl
@[simp] theorem State.setNode_setNode (s : State) (x y : NodeControl) : (s.setNode x).setNode y = s.setNode y := rfl

@[simp] theorem State.setPort_cfg (s : State) (x : SetupPort) : (s.setPort x).cfg = s.cfg := rfl
@[simp] theorem State.setPort_meas (s : State) (x : SetupPort) : (s.setPort x).meas = s.meas := rfl
@[simp] theorem State.setPort_comp (s : State) (x : SetupPort) : (s.setPort x).comp = s.comp := rfl
@[simp] theorem State.setPort_peers (s : State) (x : SetupPort) : (s.setPort x).peers = s.peers := rfl
@[simp] theorem State.setPort_line (s : State) (x : SetupPort) : (s.setPort x).line = s.line := rfl
@[simp] theorem State.setPort_ice (s : State) (x : SetupPort) : (s.setPort x).ice = s.ice := rfl
@[simp] theorem State.setPort_fog (s : State) (x : SetupPort) : (s.setPort x).fog = s.fog := rfl
@[simp] theorem State.setPort_heat (s : State) (x : SetupPort) : (s.setPort x).heat = s.heat := rfl
@[simp] theorem State.setPort_light (s : State) (x : SetupPort) : (s.setPort x).light = s.light := rfl
@[simp] theorem State.setPort_gens (s : State) (x : SetupPort) : (s.setPort x).gens = s.gens := rfl
@[simp] theorem State.setPort_pins (s : State) (x : SetupPort) : (s.setPort x).pins = s.pins := rfl
@[simp] theorem State.setPort_node (s : State) (x : SetupPort) : (s.setPort x).node = s.node := rfl
@[simp] theorem State.setPort_port (s : State) (x : SetupPort) : (s.setPort x).port = x := rfl
@[simp] theorem State.setPort_resetHeld (s : State) (x : SetupPort) : (s.setPort x).resetHeld = s.resetHeld := rfl
@[simp] theorem State.setPort_freeCount (s : State) (x : SetupPort) : (s.setPort x).freeCount = s.freeCount := rfl
@[simp] theorem State.setPort_pending (s : State) (x : SetupPort) : (s.setPort x).pending = s.pending := rfl
@[simp] theorem State.setPort_self (s : State) : s.setPort s.port = s := rfl
@[simp] theorem State.setPort_setPort (s : State) (x y : SetupPort) : (s.setPort x).setPort y = s.setPort y := rfl

@[simp] theorem State.setResetHeld_cfg (s : State) (x : Bool) : (s.setResetHeld x).cfg = s.cfg := rfl
@[simp] theorem State.setResetHeld_meas (s : State) (x : Bool) : (s.setResetHeld x).meas = s.meas := rfl
@[simp] theorem State.setResetHeld_comp (s : State) (x : Bool) : (s.setResetHeld x).comp = s.comp := rfl
@[simp] theorem State.setResetHeld_peers (s : State) (x : Bool) : (s.setResetHeld x).peers = s.peers := rfl
@[simp] theorem State.setResetHeld_line (s : State) (x : Bool) : (s.setResetHeld x).line = s.line := rfl
@[simp] theorem State.setResetHeld_ice (s : State) (x : Bool) : (s.setResetHeld x).ice = s.ice := rfl
@[simp] theorem State.setResetHeld_fog (s : State) (x : Bool) : (s.setResetHeld x).fog = s.fog := rfl
@[simp] theorem State.setResetHeld_heat (s : State) (x : Bool) : (s.setResetHeld x).heat = s.heat := rfl
@[simp] theorem State.setResetHeld_light (s : State) (x : Bool) : (s.setResetHeld x).light = s.light := rfl
@[simp] theorem State.setResetHeld_gens (s : State) (x : Bool) : (s.setResetHeld x).gens = s.gens := rfl
@[simp] theorem State.setResetHeld_pins (s : State) (x : Bool) : (s.setResetHeld x).pins = s.pins := rfl
@[simp] theorem State.setResetHeld_node (s : State) (x : Bool) : (s.setResetHeld x).node = s.node := rfl
@[simp] theorem State.setResetHeld_port (s : State) (x : Bool) : (s.setResetHeld x).port = s.port := rfl
@[simp] theorem State.setResetHeld_resetHeld (s : State) (x : Bool) : (s.setResetHeld x).resetHeld = x := rfl
@[simp] theorem State.setResetHeld_freeCount (s : State) (x : Bool) : (s.setResetHeld x).freeCount = s.freeCount := rfl
@[simp] theorem State.setResetHeld_pending (s : State) (x : Bool) : (s.setResetHeld x).pending = s.pending := rfl
@[simp] theorem State.setResetHeld_self (s : State) : s.setResetHeld s.resetHeld = s := rfl
@[simp] theorem State.setResetHeld_setResetHeld (s : State) (x y : Bool) : (s.setResetHeld x).setResetHeld y = s.setResetHeld y := rfl

@[simp] theorem State.setFreeCount_cfg (s : State) (x : Nat) : (s.setFreeCount x).cfg = s.cfg := rfl
@[simp] theorem State.setFreeCount_meas (s : State) (x : Nat) : (s.setFreeCount x).meas = s.meas := rfl
@[simp] theorem State.setFreeCount_comp (s : State) (x : Nat) : (s.setFreeCount x).comp = s.comp := rfl
@[simp] theorem State.setFreeCount_peers (s : State) (x : Nat) : (s.setFreeCount x).peers = s.peers := rfl
@[simp] theorem State.setFreeCount_line (s : State) (x : Nat) : (s.setFreeCount x).line = s.line := rfl
@[simp] theorem State.setFreeCount_ice (s : State) (x : Nat) : (s.setFreeCount x).ice = s.ice := rfl
@[simp] theorem State.setFreeCount_fog (s : State) (x : Nat) : (s.setFreeCount x).fog = s.fog := rfl
@[simp] theorem State.setFreeCount_heat (s : State) (x : Nat) : (s.setFreeCount x).heat = s.heat := rfl
@[simp] theorem State.setFreeCount_light (s : State) (x : Nat) : (s.setFreeCount x).light = s.light := rfl
@[simp] theorem State.setFreeCount_gens (s : State) (x : Nat) : (s.setFreeCount x).gens = s.gens := rfl
@[simp] theorem State.setFreeCount_pins (s : State) (x : Nat) : (s.setFreeCount x).pins = s.pins := rfl
@[simp] theorem State.setFreeCount_node (s : State) (x : Nat) : (s.setFreeCount x).node = s.node := rfl
@[simp] theorem State.setFreeCount_port (s : State) (x : Nat) : (s.setFreeCount x).port = s.port := rfl
@[simp] theorem State.setFreeCount_resetHeld (s : State) (x : Nat) : (s.setFreeCount x).resetHeld = s.resetHeld := rfl
@[simp] theorem State.setFreeCount_freeCount (s : State) (x : Nat) : (s.setFreeCount x).freeCount = x := rfl
@[simp] theorem State.setFreeCount_pending (s : State) (x : Nat) : (s.setFreeCount x).pending = s.pending := rfl
@[simp] theorem State.setFreeCount_self (s : State) : s.setFreeCount s.freeCount = s := rfl
@[simp] theorem State.setFreeCount_setFreeCount (s : State) (x y : Nat) : (s.setFreeCount x).setFreeCount y = s.setFreeCount y := rfl

@[simp] theorem State.setPending_cfg (s : State) (x : List Instr) : (s.setPending x).cfg = s.cfg := rfl
@[simp] theorem State.setPending_meas (s : State) (x : List Instr) : (s.setPending x).meas = s.meas := rfl
@[simp] theorem State.setPending_comp (s : State) (x : List Instr) : (s.setPending x).comp = s.comp := rfl
@[simp] theorem State.setPending_peers (s : State) (x : List Instr) : (s.setPending x).peers = s.peers := rfl
@[simp] theorem State.setPending_line (s : State) (x : List Instr) : (s.setPending x).line = s.line := rfl
@[simp] theorem State.setPending_ice (s : State) (x : List Instr) : (s.setPending x).ice = s.ice := rfl
@[simp] theorem State.setPending_fog (s : State) (x : List Instr) : (s.setPending x).fog = s.fog := rfl
@[simp] theorem State.setPending_heat (s : State) (x : List Instr) : (s.setPending x).heat = s.heat := rfl
@[simp] theorem State.setPending_light (s : State) (x : List Instr) : (s.setPending x).light = s.light := rfl
@[simp] theorem State.setPending_gens (s : State) (x : List Instr) : (s.setPending x).gens = s.gens := rfl
@[simp] theorem State.setPending_pins (s : State) (x : List Instr) : (s.setPending x).pins = s.pins := rfl
@[simp] theorem State.setPending_node (s : State) (x : List Instr) : (s.setPending x).node = s.node := rfl
@[simp] theorem State.setPending_port (s : State) (x : List Instr) : (s.setPending x).port = s.port := rfl
@[simp] theorem State.setPending_resetHeld (s : State) (x : List Instr) : (s.setPending x).resetHeld = s.resetHeld := rfl
@[simp] theorem State.setPending_freeCount (s : State) (x : List Instr) : (s.setPending x).freeCount = s.freeCount := rfl
@[simp] theorem State.setPending_pending (s : State) (x : List Instr) : (s.setPending x).pending = x := rfl
@[simp] theorem State.setPending_self (s : State) : s.setPending s.pending = s := rfl
@[simp] theorem State.setPending_setPending (s : State) (x y : List Instr) : (s.setPending x).setPending y = s.setPending y := rfl

/-- Two states with equal fields are equal. -/
theorem State.eq_of_fields {s t : State} (h : s.cfg = t.cfg ∧ s.meas = t.meas ∧ s.comp = t.comp ∧ s.peers = t.peers ∧
    s.line = t.line ∧ s.ice = t.ice ∧ s.fog = t.fog ∧ s.heat = t.heat ∧ s.light = t.light ∧ s.gens = t.gens ∧
    s.pins = t.pins ∧ s.node = t.node ∧ s.port = t.port ∧ s.resetHeld = t.resetHeld ∧ s.freeCount = t.freeCount ∧
    s.pending = t.pending) : s = t := by
  obtain ⟨h1, h2, h3, h4, h5, h6, h7, h8, h9, h10, h11, h12, h13, h14, h15, h16⟩ := h
  cases s
  cases t
  simp_all

end Sys2Proof.Machine
end

