-- ==== Sys2Proof/Laws/Frames.lean ====
section
/-!
SUPPORT. What each shared operation leaves alone, said once for each: the fields of the state it does not touch, and of the
node record what it keeps. Every lemma is a conjunction of rewrites, so that simp uses each of its parts.
-/
namespace Sys2Proof.Machine

/-! ### The two vector operations -/

/-- An element after one was replaced. -/
theorem setAt_getElem {α : Type} {n : Nat} (v : Vector α n) (i : Fin n) (x : α) (j : Nat) (h : j < n) :
    (setAt v i x)[j] = if i.val = j then x else v[j] := by
  simp [setAt, Vector.getElem_set]

/-- The element that was replaced. -/
@[simp] theorem setAt_getElem_self {α : Type} {n : Nat} (v : Vector α n) (i : Fin n) (x : α) :
    (setAt v i x)[i.val] = x := by
  simp [setAt]

/-- An element other than the one replaced. -/
theorem setAt_getElem_ne {α : Type} {n : Nat} (v : Vector α n) (i j : Fin n) (x : α) (h : i ≠ j) :
    (setAt v i x)[j.val] = v[j.val] := by
  rw [setAt_getElem, if_neg (fun e => h (Fin.ext e))]

/-- An element of a recomputed vector. -/
@[simp] theorem mapAt_getElem {α β : Type} {n : Nat} (v : Vector α n) (g : Fin n → α → β) (j : Nat) (h : j < n) :
    (mapAt v g)[j] = g ⟨j, h⟩ v[j] := by
  simp [mapAt]

/-- Two vectors with equal elements are equal. -/
theorem vector_eq_of_getElem {α : Type} {n : Nat} {v w : Vector α n} (h : ∀ i : Fin n, v[i.val] = w[i.val]) : v = w := by
  ext i hi
  exact h ⟨i, hi⟩

/-- What every step of a fold keeps, the fold keeps. -/
theorem foldl_keeps {α β : Type} (f : State → β) (g : State → α → State) (h : ∀ t a, f (g t a) = f t) (l : List α) (s : State) :
    f (l.foldl g s) = f s := by
  induction l generalizing s with
  | nil => rfl
  | cons a rest ih => rw [List.foldl_cons, ih, h]

/-- What every step of a fold preserves holds after the fold. -/
theorem foldl_preserves {α : Type} (P : State → Prop) (g : State → α → State) (h : ∀ t a, P t → P (g t a)) (l : List α)
    (s : State) (hs : P s) : P (l.foldl g s) := by
  induction l generalizing s with
  | nil => exact hs
  | cons a rest ih => exact ih _ (h s a hs)

/-! ### Causes and the score -/

/-- Raising a cause touches the cause record alone (R159). -/
@[simp] theorem raise_frame (s : State) (c : Cause) :
    (s.raise c).cfg = s.cfg ∧ (s.raise c).meas = s.meas ∧ (s.raise c).comp = s.comp ∧ (s.raise c).peers = s.peers ∧
    (s.raise c).line = s.line ∧ (s.raise c).ice = s.ice ∧ (s.raise c).fog = s.fog ∧ (s.raise c).heat = s.heat ∧
    (s.raise c).light = s.light ∧ (s.raise c).gens = s.gens ∧ (s.raise c).pins = s.pins ∧ (s.raise c).port = s.port ∧
    (s.raise c).resetHeld = s.resetHeld ∧ (s.raise c).freeCount = s.freeCount ∧ (s.raise c).pending = s.pending ∧
    (s.raise c).node.state = s.node.state ∧ (s.raise c).node.lastReset = s.node.lastReset ∧
    (s.raise c).node.startFault = s.node.startFault ∧ (s.raise c).node.startFaultIndex = s.node.startFaultIndex := by
  simp [State.raise]

/-- The same where a condition holds. -/
@[simp] theorem raiseIf_frame (s : State) (b : Bool) (c : Cause) :
    (s.raiseIf b c).cfg = s.cfg ∧ (s.raiseIf b c).meas = s.meas ∧ (s.raiseIf b c).comp = s.comp ∧
    (s.raiseIf b c).peers = s.peers ∧ (s.raiseIf b c).line = s.line ∧ (s.raiseIf b c).ice = s.ice ∧
    (s.raiseIf b c).fog = s.fog ∧ (s.raiseIf b c).heat = s.heat ∧ (s.raiseIf b c).light = s.light ∧
    (s.raiseIf b c).gens = s.gens ∧ (s.raiseIf b c).pins = s.pins ∧ (s.raiseIf b c).port = s.port ∧
    (s.raiseIf b c).resetHeld = s.resetHeld ∧ (s.raiseIf b c).freeCount = s.freeCount ∧
    (s.raiseIf b c).pending = s.pending ∧ (s.raiseIf b c).node.state = s.node.state ∧
    (s.raiseIf b c).node.lastReset = s.node.lastReset ∧ (s.raiseIf b c).node.startFault = s.node.startFault ∧
    (s.raiseIf b c).node.startFaultIndex = s.node.startFaultIndex := by
  simp only [State.raiseIf]
  (repeat' split) <;> simp

/-- The same for any number of occurrences. -/
@[simp] theorem raiseTimes_frame (s : State) (c : Cause) (n : Nat) :
    (s.raiseTimes c n).cfg = s.cfg ∧ (s.raiseTimes c n).meas = s.meas ∧ (s.raiseTimes c n).comp = s.comp ∧
    (s.raiseTimes c n).peers = s.peers ∧ (s.raiseTimes c n).line = s.line ∧ (s.raiseTimes c n).ice = s.ice ∧
    (s.raiseTimes c n).fog = s.fog ∧ (s.raiseTimes c n).heat = s.heat ∧ (s.raiseTimes c n).light = s.light ∧
    (s.raiseTimes c n).gens = s.gens ∧ (s.raiseTimes c n).pins = s.pins ∧ (s.raiseTimes c n).port = s.port ∧
    (s.raiseTimes c n).resetHeld = s.resetHeld ∧ (s.raiseTimes c n).freeCount = s.freeCount ∧
    (s.raiseTimes c n).pending = s.pending ∧ (s.raiseTimes c n).node.state = s.node.state ∧
    (s.raiseTimes c n).node.lastReset = s.node.lastReset ∧ (s.raiseTimes c n).node.startFault = s.node.startFault ∧
    (s.raiseTimes c n).node.startFaultIndex = s.node.startFaultIndex := by
  induction n generalizing s with
  | zero => simp [State.raiseTimes]
  | succ n ih => simp [State.raiseTimes, ih]

/-- Clearing the cause record touches it and the captured set (R159). -/
@[simp] theorem clearCauses_frame (s : State) :
    (s.clearCauses).cfg = s.cfg ∧ (s.clearCauses).meas = s.meas ∧ (s.clearCauses).comp = s.comp ∧
    (s.clearCauses).peers = s.peers ∧ (s.clearCauses).line = s.line ∧ (s.clearCauses).ice = s.ice ∧
    (s.clearCauses).fog = s.fog ∧ (s.clearCauses).heat = s.heat ∧ (s.clearCauses).light = s.light ∧
    (s.clearCauses).gens = s.gens ∧ (s.clearCauses).pins = s.pins ∧ (s.clearCauses).resetHeld = s.resetHeld ∧
    (s.clearCauses).freeCount = s.freeCount ∧ (s.clearCauses).pending = s.pending ∧
    (s.clearCauses).node.state = s.node.state ∧ (s.clearCauses).node.lastReset = s.node.lastReset ∧
    (s.clearCauses).node.startFault = s.node.startFault ∧
    (s.clearCauses).node.startFaultIndex = s.node.startFaultIndex ∧ (s.clearCauses).port.state = s.port.state ∧
    (s.clearCauses).port.waitHigh = s.port.waitHigh ∧ (s.clearCauses).port.lastResult = s.port.lastResult ∧
    (s.clearCauses).port.scenePointer = s.port.scenePointer := by
  simp [State.clearCauses]

/-- A rise of the score touches the score, degraded and the cause record (R53). -/
@[simp] theorem scoreUp_frame (s : State) :
    (s.scoreUp).cfg = s.cfg ∧ (s.scoreUp).meas = s.meas ∧ (s.scoreUp).comp = s.comp ∧ (s.scoreUp).peers = s.peers ∧
    (s.scoreUp).ice = s.ice ∧ (s.scoreUp).fog = s.fog ∧ (s.scoreUp).heat = s.heat ∧ (s.scoreUp).light = s.light ∧
    (s.scoreUp).gens = s.gens ∧ (s.scoreUp).pins = s.pins ∧ (s.scoreUp).port = s.port ∧
    (s.scoreUp).resetHeld = s.resetHeld ∧ (s.scoreUp).freeCount = s.freeCount ∧ (s.scoreUp).pending = s.pending ∧
    (s.scoreUp).node.state = s.node.state ∧ (s.scoreUp).node.lastReset = s.node.lastReset ∧
    (s.scoreUp).node.startFault = s.node.startFault ∧ (s.scoreUp).node.startFaultIndex = s.node.startFaultIndex ∧
    (s.scoreUp).line.queue = s.line.queue ∧ (s.scoreUp).line.stage = s.line.stage ∧
    (s.scoreUp).line.access = s.line.access ∧ (s.scoreUp).line.ownSequence = s.line.ownSequence ∧
    (s.scoreUp).line.cueSerial = s.line.cueSerial := by
  simp [State.scoreUp]

/-- A fall of the score touches the score and degraded (R53). -/
@[simp] theorem scoreDown_frame (s : State) :
    (s.scoreDown).cfg = s.cfg ∧ (s.scoreDown).meas = s.meas ∧ (s.scoreDown).comp = s.comp ∧
    (s.scoreDown).peers = s.peers ∧ (s.scoreDown).ice = s.ice ∧ (s.scoreDown).fog = s.fog ∧
    (s.scoreDown).heat = s.heat ∧ (s.scoreDown).light = s.light ∧ (s.scoreDown).gens = s.gens ∧
    (s.scoreDown).pins = s.pins ∧ (s.scoreDown).node = s.node ∧ (s.scoreDown).port = s.port ∧
    (s.scoreDown).resetHeld = s.resetHeld ∧ (s.scoreDown).freeCount = s.freeCount ∧
    (s.scoreDown).pending = s.pending ∧ (s.scoreDown).line.queue = s.line.queue ∧
    (s.scoreDown).line.stage = s.line.stage ∧ (s.scoreDown).line.access = s.line.access ∧
    (s.scoreDown).line.ownSequence = s.line.ownSequence ∧ (s.scoreDown).line.cueSerial = s.line.cueSerial := by
  simp [State.scoreDown]

/-! ### Generators and the queue -/

/-- An idle step touches the generators alone (R136). -/
@[simp] theorem elapse_frame (s : State) :
    (s.elapse).cfg = s.cfg ∧ (s.elapse).meas = s.meas ∧ (s.elapse).comp = s.comp ∧ (s.elapse).peers = s.peers ∧
    (s.elapse).line = s.line ∧ (s.elapse).ice = s.ice ∧ (s.elapse).fog = s.fog ∧ (s.elapse).heat = s.heat ∧
    (s.elapse).light = s.light ∧ (s.elapse).pins = s.pins ∧ (s.elapse).node = s.node ∧ (s.elapse).resetHeld = s.resetHeld ∧
    (s.elapse).port = s.port ∧ (s.elapse).freeCount = s.freeCount ∧ (s.elapse).pending = s.pending := by
  simp [State.elapse]

/-- A write to a valve generator touches that generator (R134). -/
@[simp] theorem writeValve_frame (s : State) (n : Fin 4) (level : Nat) :
    (s.writeValve n level).cfg = s.cfg ∧ (s.writeValve n level).meas = s.meas ∧
    (s.writeValve n level).comp = s.comp ∧ (s.writeValve n level).peers = s.peers ∧
    (s.writeValve n level).line = s.line ∧ (s.writeValve n level).ice = s.ice ∧ (s.writeValve n level).fog = s.fog ∧
    (s.writeValve n level).heat = s.heat ∧ (s.writeValve n level).light = s.light ∧
    (s.writeValve n level).pins = s.pins ∧ (s.writeValve n level).node = s.node ∧
    (s.writeValve n level).port = s.port ∧ (s.writeValve n level).resetHeld = s.resetHeld ∧
    (s.writeValve n level).freeCount = s.freeCount ∧ (s.writeValve n level).pending = s.pending ∧
    (s.writeValve n level).gens.dimmers = s.gens.dimmers := by
  simp [State.writeValve]

/-- A write to a dimmer generator touches that generator (R134). -/
@[simp] theorem writeDimmer_frame (s : State) (n : Fin 8) (level : Nat) :
    (s.writeDimmer n level).cfg = s.cfg ∧ (s.writeDimmer n level).meas = s.meas ∧
    (s.writeDimmer n level).comp = s.comp ∧ (s.writeDimmer n level).peers = s.peers ∧
    (s.writeDimmer n level).line = s.line ∧ (s.writeDimmer n level).ice = s.ice ∧
    (s.writeDimmer n level).fog = s.fog ∧ (s.writeDimmer n level).heat = s.heat ∧
    (s.writeDimmer n level).light = s.light ∧ (s.writeDimmer n level).pins = s.pins ∧
    (s.writeDimmer n level).node = s.node ∧ (s.writeDimmer n level).port = s.port ∧
    (s.writeDimmer n level).resetHeld = s.resetHeld ∧ (s.writeDimmer n level).freeCount = s.freeCount ∧
    (s.writeDimmer n level).pending = s.pending ∧ (s.writeDimmer n level).gens.valves = s.gens.valves := by
  simp [State.writeDimmer]

/-- Another generator record touches the generators alone. -/
@[simp] theorem setGenerator_frame (s : State) (g : GeneratorId) (x : Generator) :
    (s.setGenerator g x).cfg = s.cfg ∧ (s.setGenerator g x).meas = s.meas ∧ (s.setGenerator g x).comp = s.comp ∧
    (s.setGenerator g x).peers = s.peers ∧ (s.setGenerator g x).line = s.line ∧ (s.setGenerator g x).ice = s.ice ∧
    (s.setGenerator g x).fog = s.fog ∧ (s.setGenerator g x).heat = s.heat ∧ (s.setGenerator g x).light = s.light ∧
    (s.setGenerator g x).pins = s.pins ∧ (s.setGenerator g x).node = s.node ∧ (s.setGenerator g x).port = s.port ∧
    (s.setGenerator g x).resetHeld = s.resetHeld ∧ (s.setGenerator g x).freeCount = s.freeCount ∧
    (s.setGenerator g x).pending = s.pending := by
  cases g <;> simp [State.setGenerator]

/-- Another strobe record touches the dimmer generators alone. -/
@[simp] theorem setStrobe_frame (s : State) (n : Fin 8) (x : Strobe) :
    (s.setStrobe n x).cfg = s.cfg ∧ (s.setStrobe n x).meas = s.meas ∧ (s.setStrobe n x).comp = s.comp ∧
    (s.setStrobe n x).peers = s.peers ∧ (s.setStrobe n x).line = s.line ∧ (s.setStrobe n x).ice = s.ice ∧
    (s.setStrobe n x).fog = s.fog ∧ (s.setStrobe n x).heat = s.heat ∧ (s.setStrobe n x).light = s.light ∧
    (s.setStrobe n x).pins = s.pins ∧ (s.setStrobe n x).node = s.node ∧ (s.setStrobe n x).port = s.port ∧
    (s.setStrobe n x).resetHeld = s.resetHeld ∧ (s.setStrobe n x).freeCount = s.freeCount ∧
    (s.setStrobe n x).pending = s.pending ∧ (s.setStrobe n x).gens.valves = s.gens.valves := by
  simp [State.setStrobe]

/-- An offer touches the queue and, where it is refused, the cause record (R46). -/
@[simp] theorem offer_frame (s : State) (t : TxFrame) :
    (s.offer t).cfg = s.cfg ∧ (s.offer t).meas = s.meas ∧ (s.offer t).comp = s.comp ∧ (s.offer t).peers = s.peers ∧
    (s.offer t).ice = s.ice ∧ (s.offer t).fog = s.fog ∧ (s.offer t).heat = s.heat ∧ (s.offer t).light = s.light ∧
    (s.offer t).gens = s.gens ∧ (s.offer t).pins = s.pins ∧ (s.offer t).port = s.port ∧
    (s.offer t).resetHeld = s.resetHeld ∧ (s.offer t).freeCount = s.freeCount ∧ (s.offer t).pending = s.pending ∧
    (s.offer t).node.state = s.node.state ∧ (s.offer t).node.lastReset = s.node.lastReset ∧
    (s.offer t).node.startFault = s.node.startFault ∧ (s.offer t).node.startFaultIndex = s.node.startFaultIndex ∧
    (s.offer t).line.stage = s.line.stage ∧ (s.offer t).line.access = s.line.access ∧
    (s.offer t).line.score = s.line.score ∧ (s.offer t).line.degraded = s.line.degraded ∧
    (s.offer t).line.ownSequence = s.line.ownSequence ∧ (s.offer t).line.cueSerial = s.line.cueSerial := by
  simp only [State.offer]
  (repeat' split) <;> simp

/-! ### Fog Guard -/

/-- Re-deriving E touches E and what follows it (R85 to R87). -/
@[simp] theorem rederiveE_frame (s : State) :
    (s.rederiveE).cfg = s.cfg ∧ (s.rederiveE).meas = s.meas ∧ (s.rederiveE).comp = s.comp ∧
    (s.rederiveE).peers = s.peers ∧ (s.rederiveE).line = s.line ∧ (s.rederiveE).ice = s.ice ∧
    (s.rederiveE).heat = s.heat ∧ (s.rederiveE).light = s.light ∧ (s.rederiveE).gens = s.gens ∧
    (s.rederiveE).pins = s.pins ∧ (s.rederiveE).node = s.node ∧ (s.rederiveE).port = s.port ∧
    (s.rederiveE).resetHeld = s.resetHeld ∧ (s.rederiveE).freeCount = s.freeCount ∧
    (s.rederiveE).pending = s.pending ∧ (s.rederiveE).fog.dewPoint = s.fog.dewPoint ∧
    (s.rederiveE).fog.margin = s.fog.margin ∧ (s.rederiveE).fog.effective = s.fog.effective ∧
    (s.rederiveE).fog.failureCount = s.fog.failureCount ∧ (s.rederiveE).fog.marginState = s.fog.marginState ∧
    (s.rederiveE).fog.beamActive = s.fog.beamActive ∧ (s.rederiveE).fog.belowRun = s.fog.belowRun ∧
    (s.rederiveE).fog.clearRun = s.fog.clearRun ∧ (s.rederiveE).fog.beamFog = s.fog.beamFog ∧
    (s.rederiveE).fog.own = s.fog.own ∧ (s.rederiveE).fog.floodInView = s.fog.floodInView := by
  simp [State.rederiveE]

/-- Re-deriving the flood in view touches it alone (R78). -/
@[simp] theorem rederiveFlood_frame (s : State) :
    (s.rederiveFlood).cfg = s.cfg ∧ (s.rederiveFlood).meas = s.meas ∧ (s.rederiveFlood).comp = s.comp ∧
    (s.rederiveFlood).peers = s.peers ∧ (s.rederiveFlood).line = s.line ∧ (s.rederiveFlood).ice = s.ice ∧
    (s.rederiveFlood).heat = s.heat ∧ (s.rederiveFlood).light = s.light ∧ (s.rederiveFlood).gens = s.gens ∧
    (s.rederiveFlood).pins = s.pins ∧ (s.rederiveFlood).node = s.node ∧ (s.rederiveFlood).port = s.port ∧
    (s.rederiveFlood).resetHeld = s.resetHeld ∧ (s.rederiveFlood).freeCount = s.freeCount ∧
    (s.rederiveFlood).pending = s.pending ∧ (s.rederiveFlood).fog.dewPoint = s.fog.dewPoint ∧
    (s.rederiveFlood).fog.margin = s.fog.margin ∧ (s.rederiveFlood).fog.effective = s.fog.effective ∧
    (s.rederiveFlood).fog.failureCount = s.fog.failureCount ∧ (s.rederiveFlood).fog.marginState = s.fog.marginState ∧
    (s.rederiveFlood).fog.beamActive = s.fog.beamActive ∧ (s.rederiveFlood).fog.belowRun = s.fog.belowRun ∧
    (s.rederiveFlood).fog.clearRun = s.fog.clearRun ∧ (s.rederiveFlood).fog.beamFog = s.fog.beamFog ∧
    (s.rederiveFlood).fog.own = s.fog.own ∧ (s.rederiveFlood).fog.effectiveLevel = s.fog.effectiveLevel ∧
    (s.rederiveFlood).fog.regen = s.fog.regen ∧ (s.rederiveFlood).fog.curtail = s.fog.curtail ∧
    (s.rederiveFlood).fog.fanDemand = s.fog.fanDemand := by
  simp [State.rederiveFlood]

/-- A report of the Peer Table touches Fog Guard's two derived conditions and what follows E (R31). -/
@[simp] theorem reportPeers_frame (s : State) :
    (s.reportPeers).cfg = s.cfg ∧ (s.reportPeers).meas = s.meas ∧ (s.reportPeers).comp = s.comp ∧
    (s.reportPeers).peers = s.peers ∧ (s.reportPeers).line = s.line ∧ (s.reportPeers).ice = s.ice ∧
    (s.reportPeers).heat = s.heat ∧ (s.reportPeers).light = s.light ∧ (s.reportPeers).gens = s.gens ∧
    (s.reportPeers).pins = s.pins ∧ (s.reportPeers).node = s.node ∧ (s.reportPeers).port = s.port ∧
    (s.reportPeers).resetHeld = s.resetHeld ∧ (s.reportPeers).freeCount = s.freeCount ∧
    (s.reportPeers).pending = s.pending ∧ (s.reportPeers).fog.dewPoint = s.fog.dewPoint ∧
    (s.reportPeers).fog.margin = s.fog.margin ∧ (s.reportPeers).fog.effective = s.fog.effective ∧
    (s.reportPeers).fog.failureCount = s.fog.failureCount ∧ (s.reportPeers).fog.marginState = s.fog.marginState ∧
    (s.reportPeers).fog.beamActive = s.fog.beamActive ∧ (s.reportPeers).fog.belowRun = s.fog.belowRun ∧
    (s.reportPeers).fog.clearRun = s.fog.clearRun ∧ (s.reportPeers).fog.beamFog = s.fog.beamFog ∧
    (s.reportPeers).fog.own = s.fog.own := by
  simp [State.reportPeers]

/-! ### Entries into node states -/

/-- Another node state touches it alone. -/
@[simp] theorem setNodeState_frame (s : State) (x : NodeState) :
    (s.setNodeState x).cfg = s.cfg ∧ (s.setNodeState x).meas = s.meas ∧ (s.setNodeState x).comp = s.comp ∧
    (s.setNodeState x).peers = s.peers ∧ (s.setNodeState x).line = s.line ∧ (s.setNodeState x).ice = s.ice ∧
    (s.setNodeState x).fog = s.fog ∧ (s.setNodeState x).heat = s.heat ∧ (s.setNodeState x).light = s.light ∧
    (s.setNodeState x).gens = s.gens ∧ (s.setNodeState x).pins = s.pins ∧ (s.setNodeState x).port = s.port ∧
    (s.setNodeState x).resetHeld = s.resetHeld ∧ (s.setNodeState x).freeCount = s.freeCount ∧
    (s.setNodeState x).pending = s.pending ∧ (s.setNodeState x).node.lastReset = s.node.lastReset ∧
    (s.setNodeState x).node.startFault = s.node.startFault ∧
    (s.setNodeState x).node.startFaultIndex = s.node.startFaultIndex ∧ (s.setNodeState x).node.causes = s.node.causes := by
  simp [State.setNodeState]

/-- The node state that was set. -/
@[simp] theorem setNodeState_state (s : State) (x : NodeState) : (s.setNodeState x).node.state = x := rfl

/-- The duties written as 0 touch the loops and the valve generators (R105). -/
@[simp] theorem writeZeroDuties_frame (s : State) :
    (s.writeZeroDuties).cfg = s.cfg ∧ (s.writeZeroDuties).meas = s.meas ∧ (s.writeZeroDuties).comp = s.comp ∧
    (s.writeZeroDuties).peers = s.peers ∧ (s.writeZeroDuties).line = s.line ∧ (s.writeZeroDuties).ice = s.ice ∧
    (s.writeZeroDuties).fog = s.fog ∧ (s.writeZeroDuties).light = s.light ∧ (s.writeZeroDuties).pins = s.pins ∧
    (s.writeZeroDuties).node = s.node ∧ (s.writeZeroDuties).port = s.port ∧
    (s.writeZeroDuties).resetHeld = s.resetHeld ∧ (s.writeZeroDuties).freeCount = s.freeCount ∧
    (s.writeZeroDuties).pending = s.pending := by
  simp only [State.writeZeroDuties]
  refine ⟨?_, ?_, ?_, ?_, ?_, ?_, ?_, ?_, ?_, ?_, ?_, ?_, ?_, ?_⟩ <;>
    exact foldl_keeps _ _ (fun t n => by (repeat' split) <;> simp) _ _

/-- The writes of 0 touch the valve generators (R141). -/
@[simp] theorem writeZeroValves_frame (s : State) :
    (s.writeZeroValves).cfg = s.cfg ∧ (s.writeZeroValves).meas = s.meas ∧ (s.writeZeroValves).comp = s.comp ∧
    (s.writeZeroValves).peers = s.peers ∧ (s.writeZeroValves).line = s.line ∧ (s.writeZeroValves).ice = s.ice ∧
    (s.writeZeroValves).fog = s.fog ∧ (s.writeZeroValves).heat = s.heat ∧ (s.writeZeroValves).light = s.light ∧
    (s.writeZeroValves).pins = s.pins ∧ (s.writeZeroValves).node = s.node ∧ (s.writeZeroValves).port = s.port ∧
    (s.writeZeroValves).resetHeld = s.resetHeld ∧ (s.writeZeroValves).freeCount = s.freeCount ∧
    (s.writeZeroValves).pending = s.pending := by
  simp only [State.writeZeroValves]
  refine ⟨?_, ?_, ?_, ?_, ?_, ?_, ?_, ?_, ?_, ?_, ?_, ?_, ?_, ?_, ?_⟩ <;>
    exact foldl_keeps _ _ (fun t n => by simp) _ _

/-- What an entry into MUTE leaves alone (R153). -/
@[simp] theorem enterMute_frame (s : State) (k : MuteKind) :
    (s.enterMute k).cfg = s.cfg ∧ (s.enterMute k).meas = s.meas ∧ (s.enterMute k).peers = s.peers ∧
    (s.enterMute k).ice = s.ice ∧ (s.enterMute k).fog = s.fog ∧ (s.enterMute k).light = s.light ∧
    (s.enterMute k).pins = s.pins ∧ (s.enterMute k).port = s.port ∧ (s.enterMute k).resetHeld = s.resetHeld ∧
    (s.enterMute k).freeCount = s.freeCount ∧ (s.enterMute k).pending = s.pending ∧
    (s.enterMute k).node.lastReset = s.node.lastReset ∧ (s.enterMute k).node.startFault = s.node.startFault ∧
    (s.enterMute k).node.startFaultIndex = s.node.startFaultIndex ∧ (s.enterMute k).node.causes = s.node.causes ∧
    (s.enterMute k).line.score = s.line.score ∧ (s.enterMute k).line.degraded = s.line.degraded ∧
    (s.enterMute k).line.ownSequence = s.line.ownSequence ∧ (s.enterMute k).line.cueSerial = s.line.cueSerial := by
  simp [State.enterMute]

/-- The node state after an entry into MUTE. -/
@[simp] theorem enterMute_state (s : State) (k : MuteKind) : (s.enterMute k).node.state = .mute k := rfl

/-- What an entry into LISTEN leaves alone (R156). -/
@[simp] theorem enterListen_frame (s : State) :
    (s.enterListen).cfg = s.cfg ∧ (s.enterListen).meas = s.meas ∧ (s.enterListen).peers = s.peers ∧
    (s.enterListen).ice = s.ice ∧ (s.enterListen).fog = s.fog ∧ (s.enterListen).heat = s.heat ∧
    (s.enterListen).gens = s.gens ∧ (s.enterListen).pins = s.pins ∧ (s.enterListen).port = s.port ∧
    (s.enterListen).resetHeld = s.resetHeld ∧ (s.enterListen).freeCount = s.freeCount ∧
    (s.enterListen).pending = s.pending ∧ (s.enterListen).node.lastReset = s.node.lastReset ∧
    (s.enterListen).node.startFault = s.node.startFault ∧
    (s.enterListen).node.startFaultIndex = s.node.startFaultIndex ∧ (s.enterListen).line.stage = s.line.stage ∧
    (s.enterListen).line.score = s.line.score ∧ (s.enterListen).line.degraded = s.line.degraded ∧
    (s.enterListen).line.ownSequence = s.line.ownSequence ∧ (s.enterListen).line.cueSerial = s.line.cueSerial := by
  simp [State.enterListen]

/-- The node state after an entry into LISTEN. -/
@[simp] theorem enterListen_state (s : State) : s.enterListen.node.state = .listen := by
  simp [State.enterListen]

/-- What the end of STARTING leaves alone (R156). -/
@[simp] theorem endStarting_frame (s : State) :
    (s.endStarting).cfg = s.cfg ∧ (s.endStarting).peers = s.peers ∧ (s.endStarting).ice = s.ice ∧
    (s.endStarting).fog = s.fog ∧ (s.endStarting).heat = s.heat ∧ (s.endStarting).gens = s.gens ∧
    (s.endStarting).port = s.port ∧ (s.endStarting).resetHeld = s.resetHeld ∧
    (s.endStarting).freeCount = s.freeCount ∧ (s.endStarting).pending = s.pending ∧
    (s.endStarting).node.lastReset = s.node.lastReset ∧ (s.endStarting).node.startFault = s.node.startFault ∧
    (s.endStarting).node.startFaultIndex = s.node.startFaultIndex := by
  simp [State.endStarting]

/-- The same where a zero measurement may still be under way. -/
@[simp] theorem endStartingIfDone_frame (s : State) :
    (s.endStartingIfDone).cfg = s.cfg ∧ (s.endStartingIfDone).peers = s.peers ∧ (s.endStartingIfDone).ice = s.ice ∧
    (s.endStartingIfDone).fog = s.fog ∧ (s.endStartingIfDone).heat = s.heat ∧ (s.endStartingIfDone).gens = s.gens ∧
    (s.endStartingIfDone).port = s.port ∧ (s.endStartingIfDone).resetHeld = s.resetHeld ∧
    (s.endStartingIfDone).freeCount = s.freeCount ∧ (s.endStartingIfDone).pending = s.pending ∧
    (s.endStartingIfDone).node.lastReset = s.node.lastReset ∧
    (s.endStartingIfDone).node.startFault = s.node.startFault ∧
    (s.endStartingIfDone).node.startFaultIndex = s.node.startFaultIndex := by
  simp only [State.endStartingIfDone]
  (repeat' split) <;> simp

/-- What an entry into STARTING leaves alone (R156). -/
@[simp] theorem enterStarting_frame (s : State) :
    (s.enterStarting).cfg = s.cfg ∧ (s.enterStarting).gens = s.gens ∧ (s.enterStarting).resetHeld = s.resetHeld ∧
    (s.enterStarting).freeCount = s.freeCount ∧ (s.enterStarting).pending = s.pending ∧
    (s.enterStarting).node.lastReset = s.node.lastReset ∧ (s.enterStarting).node.startFault = s.node.startFault ∧
    (s.enterStarting).node.startFaultIndex = s.node.startFaultIndex ∧
    (s.enterStarting).line.ownSequence = s.line.ownSequence ∧ (s.enterStarting).line.cueSerial = s.line.cueSerial ∧
    (s.enterStarting).light.phase = s.light.phase ∧ (s.enterStarting).light.current = s.light.current ∧
    (s.enterStarting).light.fades = s.light.fades ∧ (s.enterStarting).light.radiant = s.light.radiant ∧
    (s.enterStarting).port.waitHigh = s.port.waitHigh ∧ (s.enterStarting).port.lastResult = s.port.lastResult ∧
    (s.enterStarting).port.scenePointer = s.port.scenePointer ∧ (s.enterStarting).pins.board = s.pins.board := by
  simp [State.enterStarting, State.clearCauses, State.setNodeState, LightLive.atStarting]

/-- The node state after an entry into STARTING. -/
@[simp] theorem enterStarting_state (s : State) : s.enterStarting.node.state = .starting := by
  simp [State.enterStarting]

/-- Another start fault touches it alone. -/
@[simp] theorem setStartFault_frame (s : State) (f : StartFault) (i : Nat) :
    (s.setStartFault f i).cfg = s.cfg ∧ (s.setStartFault f i).meas = s.meas ∧ (s.setStartFault f i).comp = s.comp ∧
    (s.setStartFault f i).peers = s.peers ∧ (s.setStartFault f i).line = s.line ∧ (s.setStartFault f i).ice = s.ice ∧
    (s.setStartFault f i).fog = s.fog ∧ (s.setStartFault f i).heat = s.heat ∧ (s.setStartFault f i).light = s.light ∧
    (s.setStartFault f i).gens = s.gens ∧ (s.setStartFault f i).pins = s.pins ∧ (s.setStartFault f i).port = s.port ∧
    (s.setStartFault f i).resetHeld = s.resetHeld ∧ (s.setStartFault f i).freeCount = s.freeCount ∧
    (s.setStartFault f i).pending = s.pending ∧ (s.setStartFault f i).node.state = s.node.state ∧
    (s.setStartFault f i).node.lastReset = s.node.lastReset ∧ (s.setStartFault f i).node.causes = s.node.causes := by
  simp [State.setStartFault]

/-- What a START that passes its checks leaves alone (R155). -/
@[simp] theorem startNode_frame (s : State) :
    (s.startNode).cfg = s.cfg ∧ (s.startNode).gens = s.gens ∧ (s.startNode).resetHeld = s.resetHeld ∧
    (s.startNode).freeCount = s.freeCount ∧ (s.startNode).pending = s.pending := by
  simp [State.startNode]

/-- What a START taken in UNSET leaves alone (R155). -/
@[simp] theorem takeStart_frame (s : State) :
    (s.takeStart).cfg = s.cfg ∧ (s.takeStart).gens = s.gens ∧ (s.takeStart).resetHeld = s.resetHeld ∧
    (s.takeStart).freeCount = s.freeCount ∧ (s.takeStart).pending = s.pending := by
  simp only [State.takeStart]
  (repeat' split) <;> simp

/-- What a RESTART leaves alone (R158). -/
@[simp] theorem restartNode_frame (s : State) :
    (s.restartNode).cfg = s.cfg ∧ (s.restartNode).resetHeld = s.resetHeld ∧ (s.restartNode).freeCount = s.freeCount ∧
    (s.restartNode).pending = s.pending := by
  simp [State.restartNode]

/-- What an ACK leaves alone (R169). -/
@[simp] theorem acknowledge_frame (s : State) (set : Vector (Option Nat) 12) :
    (s.acknowledge set).cfg = s.cfg ∧ (s.acknowledge set).meas = s.meas ∧ (s.acknowledge set).comp = s.comp ∧
    (s.acknowledge set).peers = s.peers ∧ (s.acknowledge set).line = s.line ∧ (s.acknowledge set).ice = s.ice ∧
    (s.acknowledge set).fog = s.fog ∧ (s.acknowledge set).heat = s.heat ∧ (s.acknowledge set).light = s.light ∧
    (s.acknowledge set).gens = s.gens ∧ (s.acknowledge set).pins = s.pins ∧
    (s.acknowledge set).resetHeld = s.resetHeld ∧ (s.acknowledge set).freeCount = s.freeCount ∧
    (s.acknowledge set).pending = s.pending ∧ (s.acknowledge set).node.state = s.node.state ∧
    (s.acknowledge set).node.lastReset = s.node.lastReset ∧ (s.acknowledge set).node.startFault = s.node.startFault ∧
    (s.acknowledge set).node.startFaultIndex = s.node.startFaultIndex := by
  simp [State.acknowledge]

/-! ### Measurement, ice and fog -/

/-- A conversion touches the channel record, the scan and the cause record (R7, R13). -/
@[simp] theorem convertChannel_frame (s : State) (n : Fin 12) (raw : Counts) :
    (s.convertChannel n raw).cfg = s.cfg ∧ (s.convertChannel n raw).comp = s.comp ∧
    (s.convertChannel n raw).peers = s.peers ∧ (s.convertChannel n raw).line = s.line ∧
    (s.convertChannel n raw).ice = s.ice ∧ (s.convertChannel n raw).fog = s.fog ∧
    (s.convertChannel n raw).heat = s.heat ∧ (s.convertChannel n raw).light = s.light ∧
    (s.convertChannel n raw).gens = s.gens ∧ (s.convertChannel n raw).pins = s.pins ∧
    (s.convertChannel n raw).port = s.port ∧ (s.convertChannel n raw).resetHeld = s.resetHeld ∧
    (s.convertChannel n raw).freeCount = s.freeCount ∧ (s.convertChannel n raw).pending = s.pending ∧
    (s.convertChannel n raw).node.state = s.node.state ∧ (s.convertChannel n raw).node.lastReset = s.node.lastReset ∧
    (s.convertChannel n raw).node.startFault = s.node.startFault ∧
    (s.convertChannel n raw).node.startFaultIndex = s.node.startFaultIndex := by
  simp [State.convertChannel]

/-- What a reference conversion leaves alone, the end of STARTING with it (R5, R156). -/
@[simp] theorem zeroConvert_frame (s : State) (n : Fin 12) (raw : Counts) :
    (s.zeroConvert n raw).cfg = s.cfg ∧ (s.zeroConvert n raw).peers = s.peers ∧ (s.zeroConvert n raw).ice = s.ice ∧
    (s.zeroConvert n raw).fog = s.fog ∧ (s.zeroConvert n raw).heat = s.heat ∧ (s.zeroConvert n raw).gens = s.gens ∧
    (s.zeroConvert n raw).port = s.port ∧ (s.zeroConvert n raw).resetHeld = s.resetHeld ∧
    (s.zeroConvert n raw).freeCount = s.freeCount ∧ (s.zeroConvert n raw).pending = s.pending ∧
    (s.zeroConvert n raw).node.lastReset = s.node.lastReset ∧
    (s.zeroConvert n raw).node.startFault = s.node.startFault ∧
    (s.zeroConvert n raw).node.startFaultIndex = s.node.startFaultIndex := by
  simp [State.zeroConvert]

/-- What an ice evaluation leaves alone (R59). -/
@[simp] theorem evaluateIce_frame (s : State) :
    (s.evaluateIce).cfg = s.cfg ∧ (s.evaluateIce).meas = s.meas ∧ (s.evaluateIce).comp = s.comp ∧
    (s.evaluateIce).peers = s.peers ∧ (s.evaluateIce).line = s.line ∧ (s.evaluateIce).heat = s.heat ∧
    (s.evaluateIce).light = s.light ∧ (s.evaluateIce).gens = s.gens ∧ (s.evaluateIce).pins = s.pins ∧
    (s.evaluateIce).port = s.port ∧ (s.evaluateIce).resetHeld = s.resetHeld ∧
    (s.evaluateIce).freeCount = s.freeCount ∧ (s.evaluateIce).pending = s.pending ∧
    (s.evaluateIce).node.state = s.node.state ∧ (s.evaluateIce).node.lastReset = s.node.lastReset ∧
    (s.evaluateIce).node.startFault = s.node.startFault ∧
    (s.evaluateIce).node.startFaultIndex = s.node.startFaultIndex := by
  simp only [State.evaluateIce]
  (repeat' split) <;> simp

/-- A FOG frame offered touches the queue (R84). -/
@[simp] theorem offerFogChange_frame (s : State) (before : FogLevel) :
    (s.offerFogChange before).cfg = s.cfg ∧ (s.offerFogChange before).meas = s.meas ∧
    (s.offerFogChange before).comp = s.comp ∧ (s.offerFogChange before).peers = s.peers ∧
    (s.offerFogChange before).ice = s.ice ∧ (s.offerFogChange before).fog = s.fog ∧
    (s.offerFogChange before).heat = s.heat ∧ (s.offerFogChange before).light = s.light ∧
    (s.offerFogChange before).gens = s.gens ∧ (s.offerFogChange before).pins = s.pins ∧
    (s.offerFogChange before).port = s.port ∧ (s.offerFogChange before).resetHeld = s.resetHeld ∧
    (s.offerFogChange before).freeCount = s.freeCount ∧ (s.offerFogChange before).pending = s.pending ∧
    (s.offerFogChange before).node.state = s.node.state ∧
    (s.offerFogChange before).node.lastReset = s.node.lastReset ∧
    (s.offerFogChange before).node.startFault = s.node.startFault ∧
    (s.offerFogChange before).node.startFaultIndex = s.node.startFaultIndex := by
  simp only [State.offerFogChange]
  (repeat' split) <;> simp

/-- What a fog evaluation leaves alone (R75). -/
@[simp] theorem evaluateFog_frame (s : State) :
    (s.evaluateFog).cfg = s.cfg ∧ (s.evaluateFog).meas = s.meas ∧ (s.evaluateFog).comp = s.comp ∧
    (s.evaluateFog).peers = s.peers ∧ (s.evaluateFog).ice = s.ice ∧ (s.evaluateFog).heat = s.heat ∧
    (s.evaluateFog).light = s.light ∧ (s.evaluateFog).gens = s.gens ∧ (s.evaluateFog).pins = s.pins ∧
    (s.evaluateFog).port = s.port ∧ (s.evaluateFog).resetHeld = s.resetHeld ∧
    (s.evaluateFog).freeCount = s.freeCount ∧ (s.evaluateFog).pending = s.pending ∧
    (s.evaluateFog).node.state = s.node.state ∧ (s.evaluateFog).node.lastReset = s.node.lastReset ∧
    (s.evaluateFog).node.startFault = s.node.startFault ∧
    (s.evaluateFog).node.startFaultIndex = s.node.startFaultIndex := by
  simp only [State.evaluateFog]
  (repeat' split) <;> simp

/-! ### The Peer Table -/

/-- What a delivered STATUS leaves alone (R24 to R27). -/
@[simp] theorem deliverStatus_frame (s : State) (f : Frame) :
    (s.deliverStatus f).cfg = s.cfg ∧ (s.deliverStatus f).meas = s.meas ∧ (s.deliverStatus f).comp = s.comp ∧
    (s.deliverStatus f).line = s.line ∧ (s.deliverStatus f).ice = s.ice ∧ (s.deliverStatus f).heat = s.heat ∧
    (s.deliverStatus f).light = s.light ∧ (s.deliverStatus f).gens = s.gens ∧ (s.deliverStatus f).pins = s.pins ∧
    (s.deliverStatus f).port = s.port ∧ (s.deliverStatus f).resetHeld = s.resetHeld ∧
    (s.deliverStatus f).freeCount = s.freeCount ∧ (s.deliverStatus f).pending = s.pending ∧
    (s.deliverStatus f).node.state = s.node.state ∧ (s.deliverStatus f).node.lastReset = s.node.lastReset ∧
    (s.deliverStatus f).node.startFault = s.node.startFault ∧
    (s.deliverStatus f).node.startFaultIndex = s.node.startFaultIndex := by
  simp only [State.deliverStatus]
  (repeat' split) <;> simp

/-- What a delivered FOG leaves alone (R30). -/
@[simp] theorem deliverFog_frame (s : State) (f : Frame) :
    (s.deliverFog f).cfg = s.cfg ∧ (s.deliverFog f).meas = s.meas ∧ (s.deliverFog f).comp = s.comp ∧
    (s.deliverFog f).line = s.line ∧ (s.deliverFog f).ice = s.ice ∧ (s.deliverFog f).heat = s.heat ∧
    (s.deliverFog f).light = s.light ∧ (s.deliverFog f).gens = s.gens ∧ (s.deliverFog f).pins = s.pins ∧
    (s.deliverFog f).node = s.node ∧ (s.deliverFog f).port = s.port ∧ (s.deliverFog f).resetHeld = s.resetHeld ∧
    (s.deliverFog f).freeCount = s.freeCount ∧ (s.deliverFog f).pending = s.pending := by
  simp only [State.deliverFog]
  (repeat' split) <;> simp

/-- What an ageing step leaves alone (R28). -/
@[simp] theorem agePeerTable_frame (s : State) :
    (s.agePeerTable).cfg = s.cfg ∧ (s.agePeerTable).meas = s.meas ∧ (s.agePeerTable).comp = s.comp ∧
    (s.agePeerTable).line = s.line ∧ (s.agePeerTable).ice = s.ice ∧ (s.agePeerTable).heat = s.heat ∧
    (s.agePeerTable).light = s.light ∧ (s.agePeerTable).gens = s.gens ∧ (s.agePeerTable).pins = s.pins ∧
    (s.agePeerTable).node = s.node ∧ (s.agePeerTable).port = s.port ∧ (s.agePeerTable).resetHeld = s.resetHeld ∧
    (s.agePeerTable).freeCount = s.freeCount ∧ (s.agePeerTable).pending = s.pending := by
  simp [State.agePeerTable]

/-- What the phase-split check leaves alone (R33). -/
@[simp] theorem checkSplit_frame (s : State) :
    (s.checkSplit).cfg = s.cfg ∧ (s.checkSplit).meas = s.meas ∧ (s.checkSplit).comp = s.comp ∧
    (s.checkSplit).line = s.line ∧ (s.checkSplit).ice = s.ice ∧ (s.checkSplit).fog = s.fog ∧
    (s.checkSplit).heat = s.heat ∧ (s.checkSplit).light = s.light ∧ (s.checkSplit).gens = s.gens ∧
    (s.checkSplit).pins = s.pins ∧ (s.checkSplit).port = s.port ∧ (s.checkSplit).resetHeld = s.resetHeld ∧
    (s.checkSplit).freeCount = s.freeCount ∧ (s.checkSplit).pending = s.pending ∧
    (s.checkSplit).node.state = s.node.state ∧ (s.checkSplit).node.lastReset = s.node.lastReset ∧
    (s.checkSplit).node.startFault = s.node.startFault ∧ (s.checkSplit).node.startFaultIndex = s.node.startFaultIndex := by
  simp [State.checkSplit]

/-! ### The Lighting Engine -/

/-- A scene taken touches the fades and the strobes (R121). -/
@[simp] theorem takeScene_frame (s : State) (sc : Scene) (fade : Nat) :
    (s.takeScene sc fade).cfg = s.cfg ∧ (s.takeScene sc fade).meas = s.meas ∧ (s.takeScene sc fade).comp = s.comp ∧
    (s.takeScene sc fade).peers = s.peers ∧ (s.takeScene sc fade).line = s.line ∧ (s.takeScene sc fade).ice = s.ice ∧
    (s.takeScene sc fade).fog = s.fog ∧ (s.takeScene sc fade).heat = s.heat ∧ (s.takeScene sc fade).pins = s.pins ∧
    (s.takeScene sc fade).node = s.node ∧ (s.takeScene sc fade).port = s.port ∧
    (s.takeScene sc fade).resetHeld = s.resetHeld ∧ (s.takeScene sc fade).freeCount = s.freeCount ∧
    (s.takeScene sc fade).pending = s.pending ∧ (s.takeScene sc fade).light.phase = s.light.phase ∧
    (s.takeScene sc fade).light.pendingCues = s.light.pendingCues ∧
    (s.takeScene sc fade).light.current = s.light.current ∧
    (s.takeScene sc fade).light.takeMarker = s.light.takeMarker ∧
    (s.takeScene sc fade).light.targetCap = s.light.targetCap ∧
    (s.takeScene sc fade).light.slewedCap = s.light.slewedCap ∧
    (s.takeScene sc fade).light.radiant = s.light.radiant ∧ (s.takeScene sc fade).gens.valves = s.gens.valves := by
  simp [State.takeScene]

/-- The end of a take touches the record and the marker (R121). -/
@[simp] theorem recordTake_frame (s : State) (c : CueRecord) :
    (s.recordTake c).cfg = s.cfg ∧ (s.recordTake c).meas = s.meas ∧ (s.recordTake c).comp = s.comp ∧
    (s.recordTake c).peers = s.peers ∧ (s.recordTake c).line = s.line ∧ (s.recordTake c).ice = s.ice ∧
    (s.recordTake c).fog = s.fog ∧ (s.recordTake c).heat = s.heat ∧ (s.recordTake c).gens = s.gens ∧
    (s.recordTake c).pins = s.pins ∧ (s.recordTake c).node = s.node ∧ (s.recordTake c).port = s.port ∧
    (s.recordTake c).resetHeld = s.resetHeld ∧ (s.recordTake c).freeCount = s.freeCount ∧
    (s.recordTake c).pending = s.pending ∧ (s.recordTake c).light.phase = s.light.phase ∧
    (s.recordTake c).light.pendingCues = s.light.pendingCues ∧ (s.recordTake c).light.fades = s.light.fades ∧
    (s.recordTake c).light.targetCap = s.light.targetCap ∧ (s.recordTake c).light.slewedCap = s.light.slewedCap ∧
    (s.recordTake c).light.radiant = s.light.radiant := by
  simp [State.recordTake]

/-- The phase of a take touches the phase alone (R116). -/
@[simp] theorem takePhase_frame (s : State) (c : CueRecord) :
    (s.takePhase c).cfg = s.cfg ∧ (s.takePhase c).meas = s.meas ∧ (s.takePhase c).comp = s.comp ∧
    (s.takePhase c).peers = s.peers ∧ (s.takePhase c).line = s.line ∧ (s.takePhase c).ice = s.ice ∧
    (s.takePhase c).fog = s.fog ∧ (s.takePhase c).heat = s.heat ∧ (s.takePhase c).gens = s.gens ∧
    (s.takePhase c).pins = s.pins ∧ (s.takePhase c).node = s.node ∧ (s.takePhase c).port = s.port ∧
    (s.takePhase c).resetHeld = s.resetHeld ∧ (s.takePhase c).freeCount = s.freeCount ∧
    (s.takePhase c).pending = s.pending ∧ (s.takePhase c).light.current = s.light.current ∧
    (s.takePhase c).light.takeMarker = s.light.takeMarker ∧ (s.takePhase c).light.pendingCues = s.light.pendingCues ∧
    (s.takePhase c).light.fades = s.light.fades ∧ (s.takePhase c).light.targetCap = s.light.targetCap ∧
    (s.takePhase c).light.slewedCap = s.light.slewedCap ∧ (s.takePhase c).light.radiant = s.light.radiant := by
  simp [State.takePhase]

/-- What a take leaves alone (R121). -/
@[simp] theorem takeCue_frame (s : State) (c : CueRecord) :
    (s.takeCue c).cfg = s.cfg ∧ (s.takeCue c).meas = s.meas ∧ (s.takeCue c).comp = s.comp ∧
    (s.takeCue c).peers = s.peers ∧ (s.takeCue c).line = s.line ∧ (s.takeCue c).ice = s.ice ∧
    (s.takeCue c).fog = s.fog ∧ (s.takeCue c).heat = s.heat ∧ (s.takeCue c).pins = s.pins ∧
    (s.takeCue c).node = s.node ∧ (s.takeCue c).port = s.port ∧ (s.takeCue c).resetHeld = s.resetHeld ∧
    (s.takeCue c).freeCount = s.freeCount ∧ (s.takeCue c).pending = s.pending ∧
    (s.takeCue c).light.pendingCues = s.light.pendingCues ∧ (s.takeCue c).light.targetCap = s.light.targetCap ∧
    (s.takeCue c).light.slewedCap = s.light.slewedCap ∧ (s.takeCue c).light.radiant = s.light.radiant ∧
    (s.takeCue c).gens.valves = s.gens.valves := by
  simp only [State.takeCue]
  (repeat' split) <;> simp

/-- What a STOP leaves alone (R122). -/
@[simp] theorem takeStop_frame (s : State) (c : CueRecord) :
    (s.takeStop c).cfg = s.cfg ∧ (s.takeStop c).meas = s.meas ∧ (s.takeStop c).comp = s.comp ∧
    (s.takeStop c).peers = s.peers ∧ (s.takeStop c).line = s.line ∧ (s.takeStop c).ice = s.ice ∧
    (s.takeStop c).fog = s.fog ∧ (s.takeStop c).heat = s.heat ∧ (s.takeStop c).gens = s.gens ∧
    (s.takeStop c).pins = s.pins ∧ (s.takeStop c).node = s.node ∧ (s.takeStop c).port = s.port ∧
    (s.takeStop c).resetHeld = s.resetHeld ∧ (s.takeStop c).freeCount = s.freeCount ∧
    (s.takeStop c).pending = s.pending ∧ (s.takeStop c).light.targetCap = s.light.targetCap ∧
    (s.takeStop c).light.slewedCap = s.light.slewedCap ∧ (s.takeStop c).light.radiant = s.light.radiant := by
  simp [State.takeStop]

/-- What an offer to the pending list leaves alone (R120). -/
@[simp] theorem offerPending_frame (s : State) (c : Cue) :
    (s.offerPending c).cfg = s.cfg ∧ (s.offerPending c).meas = s.meas ∧ (s.offerPending c).comp = s.comp ∧
    (s.offerPending c).peers = s.peers ∧ (s.offerPending c).line = s.line ∧ (s.offerPending c).ice = s.ice ∧
    (s.offerPending c).fog = s.fog ∧ (s.offerPending c).heat = s.heat ∧ (s.offerPending c).gens = s.gens ∧
    (s.offerPending c).pins = s.pins ∧ (s.offerPending c).port = s.port ∧
    (s.offerPending c).resetHeld = s.resetHeld ∧ (s.offerPending c).freeCount = s.freeCount ∧
    (s.offerPending c).pending = s.pending ∧ (s.offerPending c).node.state = s.node.state ∧
    (s.offerPending c).node.lastReset = s.node.lastReset ∧ (s.offerPending c).node.startFault = s.node.startFault ∧
    (s.offerPending c).node.startFaultIndex = s.node.startFaultIndex ∧
    (s.offerPending c).light.phase = s.light.phase ∧ (s.offerPending c).light.current = s.light.current ∧
    (s.offerPending c).light.takeMarker = s.light.takeMarker ∧ (s.offerPending c).light.fades = s.light.fades ∧
    (s.offerPending c).light.targetCap = s.light.targetCap ∧ (s.offerPending c).light.slewedCap = s.light.slewedCap ∧
    (s.offerPending c).light.radiant = s.light.radiant := by
  simp only [State.offerPending]
  (repeat' split) <;> simp

/-- What a cue that acts leaves alone (R119). -/
@[simp] theorem actCue_frame (s : State) (c : Cue) :
    (s.actCue c).cfg = s.cfg ∧ (s.actCue c).meas = s.meas ∧ (s.actCue c).comp = s.comp ∧
    (s.actCue c).peers = s.peers ∧ (s.actCue c).line = s.line ∧ (s.actCue c).ice = s.ice ∧ (s.actCue c).fog = s.fog ∧
    (s.actCue c).heat = s.heat ∧ (s.actCue c).pins = s.pins ∧ (s.actCue c).port = s.port ∧
    (s.actCue c).resetHeld = s.resetHeld ∧ (s.actCue c).freeCount = s.freeCount ∧ (s.actCue c).pending = s.pending ∧
    (s.actCue c).node.state = s.node.state ∧ (s.actCue c).node.lastReset = s.node.lastReset ∧
    (s.actCue c).node.startFault = s.node.startFault ∧ (s.actCue c).node.startFaultIndex = s.node.startFaultIndex ∧
    (s.actCue c).light.targetCap = s.light.targetCap ∧ (s.actCue c).light.slewedCap = s.light.slewedCap ∧
    (s.actCue c).light.radiant = s.light.radiant ∧ (s.actCue c).gens.valves = s.gens.valves := by
  simp only [State.actCue]
  (repeat' split) <;> simp

/-- What an accepted CUE leaves alone (R118). -/
@[simp] theorem acceptCue_frame (s : State) (c : Cue) :
    (s.acceptCue c).cfg = s.cfg ∧ (s.acceptCue c).meas = s.meas ∧ (s.acceptCue c).comp = s.comp ∧
    (s.acceptCue c).line = s.line ∧ (s.acceptCue c).ice = s.ice ∧ (s.acceptCue c).fog = s.fog ∧
    (s.acceptCue c).heat = s.heat ∧ (s.acceptCue c).pins = s.pins ∧ (s.acceptCue c).port = s.port ∧
    (s.acceptCue c).resetHeld = s.resetHeld ∧ (s.acceptCue c).freeCount = s.freeCount ∧
    (s.acceptCue c).pending = s.pending ∧ (s.acceptCue c).node.state = s.node.state ∧
    (s.acceptCue c).node.lastReset = s.node.lastReset ∧ (s.acceptCue c).node.startFault = s.node.startFault ∧
    (s.acceptCue c).node.startFaultIndex = s.node.startFaultIndex ∧
    (s.acceptCue c).light.targetCap = s.light.targetCap ∧ (s.acceptCue c).light.slewedCap = s.light.slewedCap ∧
    (s.acceptCue c).light.radiant = s.light.radiant ∧ (s.acceptCue c).gens.valves = s.gens.valves := by
  simp only [State.acceptCue]
  (repeat' split) <;> simp

/-- What a replay leaves alone (R129). -/
@[simp] theorem acceptReplay_frame (s : State) (c : Cue) :
    (s.acceptReplay c).cfg = s.cfg ∧ (s.acceptReplay c).meas = s.meas ∧ (s.acceptReplay c).comp = s.comp ∧
    (s.acceptReplay c).peers = s.peers ∧ (s.acceptReplay c).ice = s.ice ∧ (s.acceptReplay c).fog = s.fog ∧
    (s.acceptReplay c).heat = s.heat ∧ (s.acceptReplay c).pins = s.pins ∧ (s.acceptReplay c).node = s.node ∧
    (s.acceptReplay c).port = s.port ∧ (s.acceptReplay c).resetHeld = s.resetHeld ∧
    (s.acceptReplay c).freeCount = s.freeCount ∧ (s.acceptReplay c).pending = s.pending ∧
    (s.acceptReplay c).light.targetCap = s.light.targetCap ∧ (s.acceptReplay c).light.slewedCap = s.light.slewedCap ∧
    (s.acceptReplay c).light.radiant = s.light.radiant ∧ (s.acceptReplay c).gens.valves = s.gens.valves ∧
    (s.acceptReplay c).line.stage = s.line.stage ∧ (s.acceptReplay c).line.access = s.line.access ∧
    (s.acceptReplay c).line.score = s.line.score ∧ (s.acceptReplay c).line.degraded = s.line.degraded ∧
    (s.acceptReplay c).line.ownSequence = s.line.ownSequence ∧ (s.acceptReplay c).line.cueSerial = s.line.cueSerial := by
  simp only [State.acceptReplay]
  (repeat' split) <;> simp

/-- What a delivered CUE leaves alone (R117). -/
@[simp] theorem deliverCue_frame (s : State) (f : Frame) :
    (s.deliverCue f).cfg = s.cfg ∧ (s.deliverCue f).meas = s.meas ∧ (s.deliverCue f).comp = s.comp ∧
    (s.deliverCue f).ice = s.ice ∧ (s.deliverCue f).fog = s.fog ∧ (s.deliverCue f).heat = s.heat ∧
    (s.deliverCue f).pins = s.pins ∧ (s.deliverCue f).port = s.port ∧ (s.deliverCue f).resetHeld = s.resetHeld ∧
    (s.deliverCue f).freeCount = s.freeCount ∧ (s.deliverCue f).pending = s.pending ∧
    (s.deliverCue f).node.state = s.node.state ∧ (s.deliverCue f).node.lastReset = s.node.lastReset ∧
    (s.deliverCue f).node.startFault = s.node.startFault ∧
    (s.deliverCue f).node.startFaultIndex = s.node.startFaultIndex ∧
    (s.deliverCue f).light.targetCap = s.light.targetCap ∧ (s.deliverCue f).light.slewedCap = s.light.slewedCap ∧
    (s.deliverCue f).light.radiant = s.light.radiant ∧ (s.deliverCue f).gens.valves = s.gens.valves ∧
    (s.deliverCue f).line.stage = s.line.stage ∧ (s.deliverCue f).line.access = s.line.access ∧
    (s.deliverCue f).line.score = s.line.score ∧ (s.deliverCue f).line.degraded = s.line.degraded ∧
    (s.deliverCue f).line.ownSequence = s.line.ownSequence ∧ (s.deliverCue f).line.cueSerial = s.line.cueSerial := by
  simp only [State.deliverCue]
  (repeat' split) <;> simp

/-- What a delivered RECALL leaves alone (R128). -/
@[simp] theorem deliverRecall_frame (s : State) :
    (s.deliverRecall).cfg = s.cfg ∧ (s.deliverRecall).meas = s.meas ∧ (s.deliverRecall).comp = s.comp ∧
    (s.deliverRecall).peers = s.peers ∧ (s.deliverRecall).ice = s.ice ∧ (s.deliverRecall).fog = s.fog ∧
    (s.deliverRecall).heat = s.heat ∧ (s.deliverRecall).light = s.light ∧ (s.deliverRecall).gens = s.gens ∧
    (s.deliverRecall).pins = s.pins ∧ (s.deliverRecall).port = s.port ∧ (s.deliverRecall).resetHeld = s.resetHeld ∧
    (s.deliverRecall).freeCount = s.freeCount ∧ (s.deliverRecall).pending = s.pending ∧
    (s.deliverRecall).node.state = s.node.state ∧ (s.deliverRecall).node.lastReset = s.node.lastReset ∧
    (s.deliverRecall).node.startFault = s.node.startFault ∧
    (s.deliverRecall).node.startFaultIndex = s.node.startFaultIndex ∧ (s.deliverRecall).line.stage = s.line.stage ∧
    (s.deliverRecall).line.access = s.line.access ∧ (s.deliverRecall).line.score = s.line.score ∧
    (s.deliverRecall).line.degraded = s.line.degraded ∧ (s.deliverRecall).line.ownSequence = s.line.ownSequence ∧
    (s.deliverRecall).line.cueSerial = s.line.cueSerial := by
  simp only [State.deliverRecall]
  (repeat' split) <;> simp

/-- What an originated cue leaves alone (R123). -/
@[simp] theorem originate_frame (s : State) (n : Fin 2) :
    (s.originate n).cfg = s.cfg ∧ (s.originate n).meas = s.meas ∧ (s.originate n).comp = s.comp ∧
    (s.originate n).peers = s.peers ∧ (s.originate n).ice = s.ice ∧ (s.originate n).fog = s.fog ∧
    (s.originate n).heat = s.heat ∧ (s.originate n).pins = s.pins ∧ (s.originate n).port = s.port ∧
    (s.originate n).resetHeld = s.resetHeld ∧ (s.originate n).freeCount = s.freeCount ∧
    (s.originate n).pending = s.pending ∧ (s.originate n).node.state = s.node.state ∧
    (s.originate n).node.lastReset = s.node.lastReset ∧ (s.originate n).node.startFault = s.node.startFault ∧
    (s.originate n).node.startFaultIndex = s.node.startFaultIndex ∧
    (s.originate n).light.targetCap = s.light.targetCap ∧ (s.originate n).light.slewedCap = s.light.slewedCap ∧
    (s.originate n).light.radiant = s.light.radiant ∧ (s.originate n).gens.valves = s.gens.valves ∧
    (s.originate n).line.stage = s.line.stage ∧ (s.originate n).line.access = s.line.access ∧
    (s.originate n).line.score = s.line.score ∧ (s.originate n).line.degraded = s.line.degraded ∧
    (s.originate n).line.ownSequence = s.line.ownSequence := by
  simp [State.originate]

/-- What serving the pending list leaves alone (R120). -/
@[simp] theorem servePending_frame (s : State) :
    (s.servePending).cfg = s.cfg ∧ (s.servePending).meas = s.meas ∧ (s.servePending).comp = s.comp ∧
    (s.servePending).peers = s.peers ∧ (s.servePending).line = s.line ∧ (s.servePending).ice = s.ice ∧
    (s.servePending).fog = s.fog ∧ (s.servePending).heat = s.heat ∧ (s.servePending).pins = s.pins ∧
    (s.servePending).node = s.node ∧ (s.servePending).port = s.port ∧ (s.servePending).resetHeld = s.resetHeld ∧
    (s.servePending).freeCount = s.freeCount ∧ (s.servePending).pending = s.pending ∧
    (s.servePending).light.targetCap = s.light.targetCap ∧ (s.servePending).light.slewedCap = s.light.slewedCap ∧
    (s.servePending).light.radiant = s.light.radiant ∧ (s.servePending).gens.valves = s.gens.valves := by
  simp only [State.servePending]
  refine ⟨?_, ?_, ?_, ?_, ?_, ?_, ?_, ?_, ?_, ?_, ?_, ?_, ?_, ?_, ?_, ?_, ?_, ?_⟩
  · exact (foldl_keeps (fun t => t.cfg) _ (fun t p => by simp) _ _).trans (by simp)
  · exact (foldl_keeps (fun t => t.meas) _ (fun t p => by simp) _ _).trans (by simp)
  · exact (foldl_keeps (fun t => t.comp) _ (fun t p => by simp) _ _).trans (by simp)
  · exact (foldl_keeps (fun t => t.peers) _ (fun t p => by simp) _ _).trans (by simp)
  · exact (foldl_keeps (fun t => t.line) _ (fun t p => by simp) _ _).trans (by simp)
  · exact (foldl_keeps (fun t => t.ice) _ (fun t p => by simp) _ _).trans (by simp)
  · exact (foldl_keeps (fun t => t.fog) _ (fun t p => by simp) _ _).trans (by simp)
  · exact (foldl_keeps (fun t => t.heat) _ (fun t p => by simp) _ _).trans (by simp)
  · exact (foldl_keeps (fun t => t.pins) _ (fun t p => by simp) _ _).trans (by simp)
  · exact (foldl_keeps (fun t => t.node) _ (fun t p => by simp) _ _).trans (by simp)
  · exact (foldl_keeps (fun t => t.port) _ (fun t p => by simp) _ _).trans (by simp)
  · exact (foldl_keeps (fun t => t.resetHeld) _ (fun t p => by simp) _ _).trans (by simp)
  · exact (foldl_keeps (fun t => t.freeCount) _ (fun t p => by simp) _ _).trans (by simp)
  · exact (foldl_keeps (fun t => t.pending) _ (fun t p => by simp) _ _).trans (by simp)
  · exact (foldl_keeps (fun t => t.light.targetCap) _ (fun t p => by simp) _ _).trans (by simp)
  · exact (foldl_keeps (fun t => t.light.slewedCap) _ (fun t p => by simp) _ _).trans (by simp)
  · exact (foldl_keeps (fun t => t.light.radiant) _ (fun t p => by simp) _ _).trans (by simp)
  · exact (foldl_keeps (fun t => t.gens.valves) _ (fun t p => by simp) _ _).trans (by simp)

/-- What the channels of a fade step leave alone (R124). -/
@[simp] theorem stepFades_frame (s : State) :
    (s.stepFades).cfg = s.cfg ∧ (s.stepFades).meas = s.meas ∧ (s.stepFades).comp = s.comp ∧
    (s.stepFades).peers = s.peers ∧ (s.stepFades).line = s.line ∧ (s.stepFades).ice = s.ice ∧
    (s.stepFades).fog = s.fog ∧ (s.stepFades).heat = s.heat ∧ (s.stepFades).pins = s.pins ∧
    (s.stepFades).node = s.node ∧ (s.stepFades).port = s.port ∧ (s.stepFades).resetHeld = s.resetHeld ∧
    (s.stepFades).freeCount = s.freeCount ∧ (s.stepFades).pending = s.pending ∧
    (s.stepFades).light.phase = s.light.phase ∧ (s.stepFades).light.pendingCues = s.light.pendingCues ∧
    (s.stepFades).light.current = s.light.current ∧ (s.stepFades).light.takeMarker = s.light.takeMarker ∧
    (s.stepFades).light.targetCap = s.light.targetCap ∧ (s.stepFades).light.slewedCap = s.light.slewedCap ∧
    (s.stepFades).gens.valves = s.gens.valves := by
  simp [State.stepFades]

/-- What a fade step leaves alone (R124). -/
@[simp] theorem fadeStep_frame (s : State) :
    (s.fadeStep).cfg = s.cfg ∧ (s.fadeStep).meas = s.meas ∧ (s.fadeStep).comp = s.comp ∧
    (s.fadeStep).peers = s.peers ∧ (s.fadeStep).line = s.line ∧ (s.fadeStep).ice = s.ice ∧ (s.fadeStep).fog = s.fog ∧
    (s.fadeStep).heat = s.heat ∧ (s.fadeStep).pins = s.pins ∧ (s.fadeStep).node = s.node ∧
    (s.fadeStep).port = s.port ∧ (s.fadeStep).resetHeld = s.resetHeld ∧ (s.fadeStep).freeCount = s.freeCount ∧
    (s.fadeStep).pending = s.pending ∧ (s.fadeStep).light.targetCap = s.light.targetCap ∧
    (s.fadeStep).light.slewedCap = s.light.slewedCap ∧ (s.fadeStep).gens.valves = s.gens.valves := by
  simp [State.fadeStep]

/-- What a cap step leaves alone (R127). -/
@[simp] theorem capStep_frame (s : State) :
    (s.capStep).cfg = s.cfg ∧ (s.capStep).meas = s.meas ∧ (s.capStep).comp = s.comp ∧ (s.capStep).peers = s.peers ∧
    (s.capStep).line = s.line ∧ (s.capStep).ice = s.ice ∧ (s.capStep).fog = s.fog ∧ (s.capStep).heat = s.heat ∧
    (s.capStep).gens = s.gens ∧ (s.capStep).pins = s.pins ∧ (s.capStep).node = s.node ∧ (s.capStep).port = s.port ∧
    (s.capStep).resetHeld = s.resetHeld ∧ (s.capStep).freeCount = s.freeCount ∧ (s.capStep).pending = s.pending ∧
    (s.capStep).light.phase = s.light.phase ∧ (s.capStep).light.pendingCues = s.light.pendingCues ∧
    (s.capStep).light.current = s.light.current ∧ (s.capStep).light.takeMarker = s.light.takeMarker ∧
    (s.capStep).light.fades = s.light.fades ∧ (s.capStep).light.radiant = s.light.radiant := by
  simp [State.capStep]

/-! ### The Heat Share Engine and the Status Composer -/

/-- Step 1 of a share evaluation touches the heat record (R94). -/
@[simp] theorem computeOffer_frame (s : State) :
    (s.computeOffer).cfg = s.cfg ∧ (s.computeOffer).meas = s.meas ∧ (s.computeOffer).comp = s.comp ∧
    (s.computeOffer).peers = s.peers ∧ (s.computeOffer).line = s.line ∧ (s.computeOffer).ice = s.ice ∧
    (s.computeOffer).fog = s.fog ∧ (s.computeOffer).light = s.light ∧ (s.computeOffer).gens = s.gens ∧
    (s.computeOffer).pins = s.pins ∧ (s.computeOffer).node = s.node ∧ (s.computeOffer).port = s.port ∧
    (s.computeOffer).resetHeld = s.resetHeld ∧ (s.computeOffer).freeCount = s.freeCount ∧
    (s.computeOffer).pending = s.pending := by
  simp only [State.computeOffer]
  (repeat' split) <;> simp

/-- Step 2 touches the heat record (R96 to R100). -/
@[simp] theorem computeDemands_frame (s : State) :
    (s.computeDemands).cfg = s.cfg ∧ (s.computeDemands).meas = s.meas ∧ (s.computeDemands).comp = s.comp ∧
    (s.computeDemands).peers = s.peers ∧ (s.computeDemands).line = s.line ∧ (s.computeDemands).ice = s.ice ∧
    (s.computeDemands).fog = s.fog ∧ (s.computeDemands).light = s.light ∧ (s.computeDemands).gens = s.gens ∧
    (s.computeDemands).pins = s.pins ∧ (s.computeDemands).node = s.node ∧ (s.computeDemands).port = s.port ∧
    (s.computeDemands).resetHeld = s.resetHeld ∧ (s.computeDemands).freeCount = s.freeCount ∧
    (s.computeDemands).pending = s.pending := by
  simp [State.computeDemands]

/-- Steps 3 to 5 touch the heat record (R101 to R105). -/
@[simp] theorem computeGrants_frame (s : State) :
    (s.computeGrants).cfg = s.cfg ∧ (s.computeGrants).meas = s.meas ∧ (s.computeGrants).comp = s.comp ∧
    (s.computeGrants).peers = s.peers ∧ (s.computeGrants).line = s.line ∧ (s.computeGrants).ice = s.ice ∧
    (s.computeGrants).fog = s.fog ∧ (s.computeGrants).light = s.light ∧ (s.computeGrants).gens = s.gens ∧
    (s.computeGrants).pins = s.pins ∧ (s.computeGrants).node = s.node ∧ (s.computeGrants).port = s.port ∧
    (s.computeGrants).resetHeld = s.resetHeld ∧ (s.computeGrants).freeCount = s.freeCount ∧
    (s.computeGrants).pending = s.pending := by
  simp [State.computeGrants]

/-- A duty written touches the loop and its valve generator (R106). -/
@[simp] theorem writeDuty_frame (s : State) (n : Fin 4) :
    (s.writeDuty n).cfg = s.cfg ∧ (s.writeDuty n).meas = s.meas ∧ (s.writeDuty n).comp = s.comp ∧
    (s.writeDuty n).peers = s.peers ∧ (s.writeDuty n).line = s.line ∧ (s.writeDuty n).ice = s.ice ∧
    (s.writeDuty n).fog = s.fog ∧ (s.writeDuty n).light = s.light ∧ (s.writeDuty n).pins = s.pins ∧
    (s.writeDuty n).node = s.node ∧ (s.writeDuty n).port = s.port ∧ (s.writeDuty n).resetHeld = s.resetHeld ∧
    (s.writeDuty n).freeCount = s.freeCount ∧ (s.writeDuty n).pending = s.pending := by
  simp only [State.writeDuty]
  (repeat' split) <;> simp

/-- Step 6 touches the loops and the valve generators (R106). -/
@[simp] theorem writeDuties_frame (s : State) :
    (s.writeDuties).cfg = s.cfg ∧ (s.writeDuties).meas = s.meas ∧ (s.writeDuties).comp = s.comp ∧
    (s.writeDuties).peers = s.peers ∧ (s.writeDuties).line = s.line ∧ (s.writeDuties).ice = s.ice ∧
    (s.writeDuties).fog = s.fog ∧ (s.writeDuties).light = s.light ∧ (s.writeDuties).pins = s.pins ∧
    (s.writeDuties).node = s.node ∧ (s.writeDuties).port = s.port ∧ (s.writeDuties).resetHeld = s.resetHeld ∧
    (s.writeDuties).freeCount = s.freeCount ∧ (s.writeDuties).pending = s.pending := by
  simp only [State.writeDuties]
  refine ⟨?_, ?_, ?_, ?_, ?_, ?_, ?_, ?_, ?_, ?_, ?_, ?_, ?_, ?_⟩ <;>
    exact foldl_keeps _ _ (fun t n => by simp) _ _

/-- What a share evaluation leaves alone (R93). -/
@[simp] theorem evaluateShare_frame (s : State) :
    (s.evaluateShare).cfg = s.cfg ∧ (s.evaluateShare).meas = s.meas ∧ (s.evaluateShare).comp = s.comp ∧
    (s.evaluateShare).peers = s.peers ∧ (s.evaluateShare).line = s.line ∧ (s.evaluateShare).ice = s.ice ∧
    (s.evaluateShare).fog = s.fog ∧ (s.evaluateShare).light = s.light ∧ (s.evaluateShare).pins = s.pins ∧
    (s.evaluateShare).node = s.node ∧ (s.evaluateShare).port = s.port ∧ (s.evaluateShare).resetHeld = s.resetHeld ∧
    (s.evaluateShare).freeCount = s.freeCount ∧ (s.evaluateShare).pending = s.pending := by
  simp [State.evaluateShare]

/-- What a backup expiry leaves alone (R107). -/
@[simp] theorem judgeBackups_frame (s : State) :
    (s.judgeBackups).cfg = s.cfg ∧ (s.judgeBackups).meas = s.meas ∧ (s.judgeBackups).comp = s.comp ∧
    (s.judgeBackups).peers = s.peers ∧ (s.judgeBackups).line = s.line ∧ (s.judgeBackups).ice = s.ice ∧
    (s.judgeBackups).fog = s.fog ∧ (s.judgeBackups).light = s.light ∧ (s.judgeBackups).gens = s.gens ∧
    (s.judgeBackups).pins = s.pins ∧ (s.judgeBackups).port = s.port ∧ (s.judgeBackups).resetHeld = s.resetHeld ∧
    (s.judgeBackups).freeCount = s.freeCount ∧ (s.judgeBackups).pending = s.pending ∧
    (s.judgeBackups).node.state = s.node.state ∧ (s.judgeBackups).node.lastReset = s.node.lastReset ∧
    (s.judgeBackups).node.startFault = s.node.startFault ∧
    (s.judgeBackups).node.startFaultIndex = s.node.startFaultIndex := by
  simp [State.judgeBackups]

/-- Composing touches the sequence counter and the queue (R19, R21). -/
@[simp] theorem compose_frame (s : State) :
    (s.compose).cfg = s.cfg ∧ (s.compose).meas = s.meas ∧ (s.compose).comp = s.comp ∧ (s.compose).peers = s.peers ∧
    (s.compose).ice = s.ice ∧ (s.compose).fog = s.fog ∧ (s.compose).heat = s.heat ∧ (s.compose).light = s.light ∧
    (s.compose).gens = s.gens ∧ (s.compose).pins = s.pins ∧ (s.compose).port = s.port ∧
    (s.compose).resetHeld = s.resetHeld ∧ (s.compose).freeCount = s.freeCount ∧ (s.compose).pending = s.pending ∧
    (s.compose).node.state = s.node.state ∧ (s.compose).node.lastReset = s.node.lastReset ∧
    (s.compose).node.startFault = s.node.startFault ∧ (s.compose).node.startFaultIndex = s.node.startFaultIndex ∧
    (s.compose).line.stage = s.line.stage ∧ (s.compose).line.access = s.line.access ∧
    (s.compose).line.score = s.line.score ∧ (s.compose).line.degraded = s.line.degraded ∧
    (s.compose).line.cueSerial = s.line.cueSerial := by
  simp [State.compose]

/-- What an entry into RUN leaves alone (R18). -/
@[simp] theorem enterRun_frame (s : State) :
    (s.enterRun).cfg = s.cfg ∧ (s.enterRun).meas = s.meas ∧ (s.enterRun).peers = s.peers ∧
    (s.enterRun).line = s.line ∧ (s.enterRun).ice = s.ice ∧ (s.enterRun).fog = s.fog ∧ (s.enterRun).heat = s.heat ∧
    (s.enterRun).light = s.light ∧ (s.enterRun).gens = s.gens ∧ (s.enterRun).pins = s.pins ∧
    (s.enterRun).port = s.port ∧ (s.enterRun).resetHeld = s.resetHeld ∧ (s.enterRun).freeCount = s.freeCount ∧
    (s.enterRun).pending = s.pending ∧ (s.enterRun).node.lastReset = s.node.lastReset ∧
    (s.enterRun).node.startFault = s.node.startFault ∧ (s.enterRun).node.startFaultIndex = s.node.startFaultIndex ∧
    (s.enterRun).node.causes = s.node.causes := by
  simp [State.enterRun]

/-- Counting an expiry touches the count alone (R18). -/
@[simp] theorem countExpiry_frame (s : State) :
    (s.countExpiry).cfg = s.cfg ∧ (s.countExpiry).meas = s.meas ∧ (s.countExpiry).peers = s.peers ∧
    (s.countExpiry).line = s.line ∧ (s.countExpiry).ice = s.ice ∧ (s.countExpiry).fog = s.fog ∧
    (s.countExpiry).heat = s.heat ∧ (s.countExpiry).light = s.light ∧ (s.countExpiry).gens = s.gens ∧
    (s.countExpiry).pins = s.pins ∧ (s.countExpiry).node = s.node ∧ (s.countExpiry).port = s.port ∧
    (s.countExpiry).resetHeld = s.resetHeld ∧ (s.countExpiry).freeCount = s.freeCount ∧
    (s.countExpiry).pending = s.pending ∧ (s.countExpiry).comp.first = s.comp.first := by
  simp [State.countExpiry]

/-- What follows the steps of an expiry leaves the rest alone (R17, R18). -/
@[simp] theorem finishExpiry_frame (s : State) :
    (s.finishExpiry).cfg = s.cfg ∧ (s.finishExpiry).meas = s.meas ∧ (s.finishExpiry).peers = s.peers ∧
    (s.finishExpiry).ice = s.ice ∧ (s.finishExpiry).fog = s.fog ∧ (s.finishExpiry).heat = s.heat ∧
    (s.finishExpiry).light = s.light ∧ (s.finishExpiry).gens = s.gens ∧ (s.finishExpiry).pins = s.pins ∧
    (s.finishExpiry).port = s.port ∧ (s.finishExpiry).resetHeld = s.resetHeld ∧
    (s.finishExpiry).freeCount = s.freeCount ∧ (s.finishExpiry).pending = s.pending ∧
    (s.finishExpiry).node.lastReset = s.node.lastReset ∧ (s.finishExpiry).node.startFault = s.node.startFault ∧
    (s.finishExpiry).node.startFaultIndex = s.node.startFaultIndex ∧ (s.finishExpiry).line.stage = s.line.stage ∧
    (s.finishExpiry).line.access = s.line.access ∧ (s.finishExpiry).line.score = s.line.score ∧
    (s.finishExpiry).line.degraded = s.line.degraded ∧ (s.finishExpiry).line.cueSerial = s.line.cueSerial := by
  simp only [State.finishExpiry]
  (repeat' split) <;> simp

/-- What a period expiry leaves alone (R17). -/
@[simp] theorem expirePeriod_frame (s : State) :
    (s.expirePeriod).cfg = s.cfg ∧ (s.expirePeriod).meas = s.meas ∧ (s.expirePeriod).ice = s.ice ∧
    (s.expirePeriod).fog = s.fog ∧ (s.expirePeriod).light = s.light ∧ (s.expirePeriod).pins = s.pins ∧
    (s.expirePeriod).port = s.port ∧ (s.expirePeriod).resetHeld = s.resetHeld ∧
    (s.expirePeriod).freeCount = s.freeCount ∧ (s.expirePeriod).pending = s.pending ∧
    (s.expirePeriod).node.lastReset = s.node.lastReset ∧ (s.expirePeriod).node.startFault = s.node.startFault ∧
    (s.expirePeriod).node.startFaultIndex = s.node.startFaultIndex := by
  simp [State.expirePeriod]

/-! ### The Line Interface -/

/-- The line seen otherwise. -/
@[simp] theorem setAccess_frame (s : State) (a : Access) :
    (s.setAccess a).cfg = s.cfg ∧ (s.setAccess a).meas = s.meas ∧ (s.setAccess a).comp = s.comp ∧
    (s.setAccess a).peers = s.peers ∧ (s.setAccess a).ice = s.ice ∧ (s.setAccess a).fog = s.fog ∧
    (s.setAccess a).heat = s.heat ∧ (s.setAccess a).light = s.light ∧ (s.setAccess a).gens = s.gens ∧
    (s.setAccess a).pins = s.pins ∧ (s.setAccess a).node = s.node ∧ (s.setAccess a).port = s.port ∧
    (s.setAccess a).resetHeld = s.resetHeld ∧ (s.setAccess a).freeCount = s.freeCount ∧
    (s.setAccess a).pending = s.pending ∧ (s.setAccess a).line.queue = s.line.queue ∧
    (s.setAccess a).line.stage = s.line.stage ∧ (s.setAccess a).line.score = s.line.score ∧
    (s.setAccess a).line.degraded = s.line.degraded ∧ (s.setAccess a).line.ownSequence = s.line.ownSequence ∧
    (s.setAccess a).line.cueSerial = s.line.cueSerial := by
  simp [State.setAccess]

/-- The line as it was set. -/
@[simp] theorem setAccess_access (s : State) (a : Access) : (s.setAccess a).line.access = a := rfl

/-- An attempt that begins touches the Line Interface alone (R41). -/
@[simp] theorem beginAttempt_frame (s : State) (x : Queued) :
    (s.beginAttempt x).cfg = s.cfg ∧ (s.beginAttempt x).meas = s.meas ∧ (s.beginAttempt x).comp = s.comp ∧
    (s.beginAttempt x).peers = s.peers ∧ (s.beginAttempt x).ice = s.ice ∧ (s.beginAttempt x).fog = s.fog ∧
    (s.beginAttempt x).heat = s.heat ∧ (s.beginAttempt x).light = s.light ∧ (s.beginAttempt x).gens = s.gens ∧
    (s.beginAttempt x).pins = s.pins ∧ (s.beginAttempt x).node = s.node ∧ (s.beginAttempt x).port = s.port ∧
    (s.beginAttempt x).resetHeld = s.resetHeld ∧ (s.beginAttempt x).freeCount = s.freeCount ∧
    (s.beginAttempt x).pending = s.pending ∧ (s.beginAttempt x).line.score = s.line.score ∧
    (s.beginAttempt x).line.degraded = s.line.degraded ∧ (s.beginAttempt x).line.ownSequence = s.line.ownSequence ∧
    (s.beginAttempt x).line.cueSerial = s.line.cueSerial := by
  simp [State.beginAttempt]

/-- A slot start touches the Line Interface alone (R41). -/
@[simp] theorem startSlot_frame (s : State) (k : Nat) :
    (s.startSlot k).cfg = s.cfg ∧ (s.startSlot k).meas = s.meas ∧ (s.startSlot k).comp = s.comp ∧
    (s.startSlot k).peers = s.peers ∧ (s.startSlot k).ice = s.ice ∧ (s.startSlot k).fog = s.fog ∧
    (s.startSlot k).heat = s.heat ∧ (s.startSlot k).light = s.light ∧ (s.startSlot k).gens = s.gens ∧
    (s.startSlot k).pins = s.pins ∧ (s.startSlot k).node = s.node ∧ (s.startSlot k).port = s.port ∧
    (s.startSlot k).resetHeld = s.resetHeld ∧ (s.startSlot k).freeCount = s.freeCount ∧
    (s.startSlot k).pending = s.pending ∧ (s.startSlot k).line.score = s.line.score ∧
    (s.startSlot k).line.degraded = s.line.degraded ∧ (s.startSlot k).line.ownSequence = s.line.ownSequence ∧
    (s.startSlot k).line.cueSerial = s.line.cueSerial := by
  simp only [State.startSlot]
  (repeat' split) <;> simp

/-- The cause of a drop touches the cause record alone (R45). -/
@[simp] theorem raiseDrop_frame (s : State) (t : TxFrame) :
    (s.raiseDrop t).cfg = s.cfg ∧ (s.raiseDrop t).meas = s.meas ∧ (s.raiseDrop t).comp = s.comp ∧
    (s.raiseDrop t).peers = s.peers ∧ (s.raiseDrop t).line = s.line ∧ (s.raiseDrop t).ice = s.ice ∧
    (s.raiseDrop t).fog = s.fog ∧ (s.raiseDrop t).heat = s.heat ∧ (s.raiseDrop t).light = s.light ∧
    (s.raiseDrop t).gens = s.gens ∧ (s.raiseDrop t).pins = s.pins ∧ (s.raiseDrop t).port = s.port ∧
    (s.raiseDrop t).resetHeld = s.resetHeld ∧ (s.raiseDrop t).freeCount = s.freeCount ∧
    (s.raiseDrop t).pending = s.pending ∧ (s.raiseDrop t).node.state = s.node.state ∧
    (s.raiseDrop t).node.lastReset = s.node.lastReset ∧ (s.raiseDrop t).node.startFault = s.node.startFault ∧
    (s.raiseDrop t).node.startFaultIndex = s.node.startFaultIndex := by
  cases t <;> simp [State.raiseDrop]

/-- What a failed attempt leaves alone (R42, R45). -/
@[simp] theorem failAttempt_frame (s : State) (st : Staged) :
    (s.failAttempt st).cfg = s.cfg ∧ (s.failAttempt st).meas = s.meas ∧ (s.failAttempt st).comp = s.comp ∧
    (s.failAttempt st).peers = s.peers ∧ (s.failAttempt st).ice = s.ice ∧ (s.failAttempt st).fog = s.fog ∧
    (s.failAttempt st).heat = s.heat ∧ (s.failAttempt st).light = s.light ∧ (s.failAttempt st).gens = s.gens ∧
    (s.failAttempt st).pins = s.pins ∧ (s.failAttempt st).port = s.port ∧
    (s.failAttempt st).resetHeld = s.resetHeld ∧ (s.failAttempt st).freeCount = s.freeCount ∧
    (s.failAttempt st).pending = s.pending ∧ (s.failAttempt st).node.state = s.node.state ∧
    (s.failAttempt st).node.lastReset = s.node.lastReset ∧ (s.failAttempt st).node.startFault = s.node.startFault ∧
    (s.failAttempt st).node.startFaultIndex = s.node.startFaultIndex ∧
    (s.failAttempt st).line.access = s.line.access ∧ (s.failAttempt st).line.score = s.line.score ∧
    (s.failAttempt st).line.degraded = s.line.degraded ∧ (s.failAttempt st).line.ownSequence = s.line.ownSequence ∧
    (s.failAttempt st).line.cueSerial = s.line.cueSerial := by
  simp only [State.failAttempt]
  (repeat' split) <;> simp

/-- What a collision leaves alone (R42). -/
@[simp] theorem collide_frame (s : State) (st : Staged) :
    (s.collide st).cfg = s.cfg ∧ (s.collide st).meas = s.meas ∧ (s.collide st).comp = s.comp ∧
    (s.collide st).peers = s.peers ∧ (s.collide st).ice = s.ice ∧ (s.collide st).fog = s.fog ∧
    (s.collide st).heat = s.heat ∧ (s.collide st).light = s.light ∧ (s.collide st).gens = s.gens ∧
    (s.collide st).pins = s.pins ∧ (s.collide st).port = s.port ∧ (s.collide st).resetHeld = s.resetHeld ∧
    (s.collide st).freeCount = s.freeCount ∧ (s.collide st).pending = s.pending ∧
    (s.collide st).node.state = s.node.state ∧ (s.collide st).node.lastReset = s.node.lastReset ∧
    (s.collide st).node.startFault = s.node.startFault ∧
    (s.collide st).node.startFaultIndex = s.node.startFaultIndex ∧ (s.collide st).line.score = s.line.score ∧
    (s.collide st).line.degraded = s.line.degraded ∧ (s.collide st).line.ownSequence = s.line.ownSequence ∧
    (s.collide st).line.cueSerial = s.line.cueSerial := by
  simp [State.collide]

/-- What a disturbance leaves alone (R43). -/
@[simp] theorem disturb_frame (s : State) (st : Staged) :
    (s.disturb st).cfg = s.cfg ∧ (s.disturb st).meas = s.meas ∧ (s.disturb st).comp = s.comp ∧
    (s.disturb st).peers = s.peers ∧ (s.disturb st).ice = s.ice ∧ (s.disturb st).fog = s.fog ∧
    (s.disturb st).heat = s.heat ∧ (s.disturb st).light = s.light ∧ (s.disturb st).gens = s.gens ∧
    (s.disturb st).pins = s.pins ∧ (s.disturb st).port = s.port ∧ (s.disturb st).resetHeld = s.resetHeld ∧
    (s.disturb st).freeCount = s.freeCount ∧ (s.disturb st).pending = s.pending ∧
    (s.disturb st).node.state = s.node.state ∧ (s.disturb st).node.lastReset = s.node.lastReset ∧
    (s.disturb st).node.startFault = s.node.startFault ∧
    (s.disturb st).node.startFaultIndex = s.node.startFaultIndex ∧
    (s.disturb st).line.ownSequence = s.line.ownSequence ∧ (s.disturb st).line.cueSerial = s.line.cueSerial := by
  simp [State.disturb]

/-- What a whole send leaves alone (R44). -/
@[simp] theorem sendWhole_frame (s : State) (st : Staged) :
    (s.sendWhole st).cfg = s.cfg ∧ (s.sendWhole st).meas = s.meas ∧ (s.sendWhole st).peers = s.peers ∧
    (s.sendWhole st).ice = s.ice ∧ (s.sendWhole st).fog = s.fog ∧ (s.sendWhole st).heat = s.heat ∧
    (s.sendWhole st).light = s.light ∧ (s.sendWhole st).gens = s.gens ∧ (s.sendWhole st).pins = s.pins ∧
    (s.sendWhole st).node = s.node ∧ (s.sendWhole st).port = s.port ∧ (s.sendWhole st).resetHeld = s.resetHeld ∧
    (s.sendWhole st).freeCount = s.freeCount ∧ (s.sendWhole st).pending = s.pending ∧
    (s.sendWhole st).line.queue = s.line.queue ∧ (s.sendWhole st).line.ownSequence = s.line.ownSequence ∧
    (s.sendWhole st).line.cueSerial = s.line.cueSerial ∧ (s.sendWhole st).comp.expiryCount = s.comp.expiryCount := by
  simp only [State.sendWhole]
  (repeat' split) <;> simp

/-- What an address clash leaves alone (R55). -/
@[simp] theorem clash_frame (s : State) :
    (s.clash).cfg = s.cfg ∧ (s.clash).meas = s.meas ∧ (s.clash).peers = s.peers ∧ (s.clash).ice = s.ice ∧
    (s.clash).fog = s.fog ∧ (s.clash).light = s.light ∧ (s.clash).pins = s.pins ∧ (s.clash).port = s.port ∧
    (s.clash).resetHeld = s.resetHeld ∧ (s.clash).freeCount = s.freeCount ∧ (s.clash).pending = s.pending ∧
    (s.clash).node.lastReset = s.node.lastReset ∧ (s.clash).node.startFault = s.node.startFault ∧
    (s.clash).node.startFaultIndex = s.node.startFaultIndex := by
  simp only [State.clash]
  (repeat' split) <;> simp

/-- What a delivered frame leaves alone (R52). -/
@[simp] theorem deliver_frame (s : State) (f : Frame) :
    (s.deliver f).cfg = s.cfg ∧ (s.deliver f).meas = s.meas ∧ (s.deliver f).comp = s.comp ∧
    (s.deliver f).ice = s.ice ∧ (s.deliver f).heat = s.heat ∧ (s.deliver f).pins = s.pins ∧
    (s.deliver f).port = s.port ∧ (s.deliver f).resetHeld = s.resetHeld ∧ (s.deliver f).freeCount = s.freeCount ∧
    (s.deliver f).pending = s.pending ∧ (s.deliver f).node.state = s.node.state ∧
    (s.deliver f).node.lastReset = s.node.lastReset ∧ (s.deliver f).node.startFault = s.node.startFault ∧
    (s.deliver f).node.startFaultIndex = s.node.startFaultIndex := by
  simp only [State.deliver]
  (repeat' split) <;> simp

/-- What a valid frame leaves alone (R52, R55). -/
@[simp] theorem receiveValid_frame (s : State) (f : Frame) :
    (s.receiveValid f).cfg = s.cfg ∧ (s.receiveValid f).meas = s.meas ∧ (s.receiveValid f).ice = s.ice ∧
    (s.receiveValid f).pins = s.pins ∧ (s.receiveValid f).port = s.port ∧
    (s.receiveValid f).resetHeld = s.resetHeld ∧ (s.receiveValid f).freeCount = s.freeCount ∧
    (s.receiveValid f).pending = s.pending ∧ (s.receiveValid f).node.lastReset = s.node.lastReset ∧
    (s.receiveValid f).node.startFault = s.node.startFault ∧
    (s.receiveValid f).node.startFaultIndex = s.node.startFaultIndex := by
  simp only [State.receiveValid]
  (repeat' split) <;> simp

/-- What a stuck line leaves alone (R54). -/
@[simp] theorem lineStuck_frame (s : State) :
    (s.lineStuck).cfg = s.cfg ∧ (s.lineStuck).meas = s.meas ∧ (s.lineStuck).peers = s.peers ∧
    (s.lineStuck).ice = s.ice ∧ (s.lineStuck).fog = s.fog ∧ (s.lineStuck).light = s.light ∧
    (s.lineStuck).pins = s.pins ∧ (s.lineStuck).port = s.port ∧ (s.lineStuck).resetHeld = s.resetHeld ∧
    (s.lineStuck).freeCount = s.freeCount ∧ (s.lineStuck).pending = s.pending ∧
    (s.lineStuck).node.lastReset = s.node.lastReset ∧ (s.lineStuck).node.startFault = s.node.startFault ∧
    (s.lineStuck).node.startFaultIndex = s.node.startFaultIndex := by
  simp only [State.lineStuck]
  (repeat' split) <;> simp

/-- What the end of a stuck line leaves alone (R54). -/
@[simp] theorem endStuckLine_frame (s : State) :
    (s.endStuckLine).cfg = s.cfg ∧ (s.endStuckLine).meas = s.meas ∧ (s.endStuckLine).peers = s.peers ∧
    (s.endStuckLine).ice = s.ice ∧ (s.endStuckLine).fog = s.fog ∧ (s.endStuckLine).heat = s.heat ∧
    (s.endStuckLine).gens = s.gens ∧ (s.endStuckLine).pins = s.pins ∧ (s.endStuckLine).port = s.port ∧
    (s.endStuckLine).resetHeld = s.resetHeld ∧ (s.endStuckLine).freeCount = s.freeCount ∧
    (s.endStuckLine).pending = s.pending ∧ (s.endStuckLine).node.lastReset = s.node.lastReset ∧
    (s.endStuckLine).node.startFault = s.node.startFault ∧
    (s.endStuckLine).node.startFaultIndex = s.node.startFaultIndex := by
  simp only [State.endStuckLine]
  (repeat' split) <;> simp

/-! ### Cue inputs -/

/-- What the outside holds touches no record. -/
@[simp] theorem setBoard_frame (s : State) (b : Board) :
    (s.setBoard b).cfg = s.cfg ∧ (s.setBoard b).meas = s.meas ∧ (s.setBoard b).comp = s.comp ∧
    (s.setBoard b).peers = s.peers ∧ (s.setBoard b).line = s.line ∧ (s.setBoard b).ice = s.ice ∧
    (s.setBoard b).fog = s.fog ∧ (s.setBoard b).heat = s.heat ∧ (s.setBoard b).light = s.light ∧
    (s.setBoard b).gens = s.gens ∧ (s.setBoard b).node = s.node ∧ (s.setBoard b).port = s.port ∧
    (s.setBoard b).resetHeld = s.resetHeld ∧ (s.setBoard b).freeCount = s.freeCount ∧
    (s.setBoard b).pending = s.pending ∧ (s.setBoard b).pins.cueInputs = s.pins.cueInputs := by
  simp [State.setBoard]

/-- The records of a sample touch the cue inputs alone. -/
@[simp] theorem sampleRecords_frame (s : State) :
    (s.sampleRecords).cfg = s.cfg ∧ (s.sampleRecords).meas = s.meas ∧ (s.sampleRecords).comp = s.comp ∧
    (s.sampleRecords).peers = s.peers ∧ (s.sampleRecords).line = s.line ∧ (s.sampleRecords).ice = s.ice ∧
    (s.sampleRecords).fog = s.fog ∧ (s.sampleRecords).heat = s.heat ∧ (s.sampleRecords).light = s.light ∧
    (s.sampleRecords).gens = s.gens ∧ (s.sampleRecords).node = s.node ∧ (s.sampleRecords).port = s.port ∧
    (s.sampleRecords).resetHeld = s.resetHeld ∧ (s.sampleRecords).pending = s.pending ∧
    (s.sampleRecords).pins.board = s.pins.board := by
  simp [State.sampleRecords]

/-- What a rising edge leaves alone (R149). -/
@[simp] theorem originateOnRise_frame (s : State) (b : State) (n : Fin 2) :
    (s.originateOnRise b n).cfg = s.cfg ∧ (s.originateOnRise b n).meas = s.meas ∧
    (s.originateOnRise b n).comp = s.comp ∧ (s.originateOnRise b n).peers = s.peers ∧
    (s.originateOnRise b n).ice = s.ice ∧ (s.originateOnRise b n).fog = s.fog ∧
    (s.originateOnRise b n).heat = s.heat ∧ (s.originateOnRise b n).pins = s.pins ∧
    (s.originateOnRise b n).port = s.port ∧ (s.originateOnRise b n).resetHeld = s.resetHeld ∧
    (s.originateOnRise b n).freeCount = s.freeCount ∧ (s.originateOnRise b n).pending = s.pending ∧
    (s.originateOnRise b n).node.state = s.node.state ∧ (s.originateOnRise b n).node.lastReset = s.node.lastReset ∧
    (s.originateOnRise b n).node.startFault = s.node.startFault ∧
    (s.originateOnRise b n).node.startFaultIndex = s.node.startFaultIndex := by
  simp only [State.originateOnRise]
  (repeat' split) <;> simp

/-- What a sample leaves alone (R148, R149). -/
@[simp] theorem sampleInputs_frame (s : State) (b : Board) :
    (s.sampleInputs b).cfg = s.cfg ∧ (s.sampleInputs b).meas = s.meas ∧ (s.sampleInputs b).comp = s.comp ∧
    (s.sampleInputs b).peers = s.peers ∧ (s.sampleInputs b).ice = s.ice ∧ (s.sampleInputs b).fog = s.fog ∧
    (s.sampleInputs b).heat = s.heat ∧ (s.sampleInputs b).port = s.port ∧
    (s.sampleInputs b).resetHeld = s.resetHeld ∧ (s.sampleInputs b).pending = s.pending ∧
    (s.sampleInputs b).node.state = s.node.state ∧ (s.sampleInputs b).node.lastReset = s.node.lastReset ∧
    (s.sampleInputs b).node.startFault = s.node.startFault ∧
    (s.sampleInputs b).node.startFaultIndex = s.node.startFaultIndex := by
  simp [State.sampleInputs]

/-! ### The Setup Port -/

/-- The bits taken in CODE (R162): the code they spell, their number, and a low PDO at each of them. -/
theorem takeCodeBits (p : SetupPort) (bits : Bits) :
    bits.foldl SetupPort.takeCodeBit p = { p with
      code := natOfBitsFrom p.code bits
      count := p.count + bits.length
      pdo := p.pdo ++ List.replicate bits.length p.pdoLevel } := by
  induction bits generalizing p with
  | nil => simp [natOfBitsFrom]
  | cons b rest ih =>
    rw [List.foldl_cons, ih]
    simp [SetupPort.takeCodeBit, SetupPort.pdoLevel, natOfBitsFrom, List.replicate_succ]
    omega

/-- The bits taken in SHIFT (R165): the stage is one chain that the PDI bits enter at its far end, PDO shows what leaves it, and the
count gains one for each. -/
theorem takeShiftBits (p : SetupPort) (pdi : Bits) (hp : p.state = .shift) (hs : p.stage ≠ []) :
    pdi.foldl SetupPort.takeShiftBit p = { p with
      stage := (p.stage ++ pdi).drop pdi.length
      count := p.count + pdi.length
      pdo := p.pdo ++ ((p.stage ++ pdi).take pdi.length).map some } := by
  induction pdi generalizing p with
  | nil => simp
  | cons b rest ih =>
    obtain ⟨a, l, hl⟩ := List.exists_cons_of_ne_nil hs
    rw [List.foldl_cons, ih _ (by simpa [SetupPort.takeShiftBit] using hp) (by simp [SetupPort.takeShiftBit])]
    simp [SetupPort.takeShiftBit, SetupPort.pdoLevel, hl, hp]
    omega

/-- The shifting leaves the port's other fields alone (R165). -/
@[simp] theorem takeShiftBits_frame (p : SetupPort) (pdi : Bits) :
    (pdi.foldl SetupPort.takeShiftBit p).state = p.state ∧ (pdi.foldl SetupPort.takeShiftBit p).waitHigh = p.waitHigh ∧
    (pdi.foldl SetupPort.takeShiftBit p).code = p.code ∧ (pdi.foldl SetupPort.takeShiftBit p).snapshot = p.snapshot ∧
    (pdi.foldl SetupPort.takeShiftBit p).lastResult = p.lastResult ∧
    (pdi.foldl SetupPort.takeShiftBit p).scenePointer = p.scenePointer ∧
    (pdi.foldl SetupPort.takeShiftBit p).capturedSet = p.capturedSet := by
  induction pdi generalizing p with
  | nil => simp
  | cons b rest ih =>
    rw [List.foldl_cons]
    simpa [SetupPort.takeShiftBit] using ih (p.takeShiftBit b)

/-- The port after the fall of PSEL and the code bits (R162). -/
theorem receiveCode_eq (s : State) (bits : Bits) :
    s.receiveCode bits = s.setPort { s.port with
      state := .code, code := natOfBits bits, count := bits.length, pdo := List.replicate bits.length (some false) } := by
  simp [State.receiveCode, takeCodeBits, SetupPort.select, SetupPort.pdoLevel, natOfBits]

/-- The code bits touch the port's state, code, count and output (R162). -/
@[simp] theorem receiveCode_frame (s : State) (bits : Bits) :
    (s.receiveCode bits).cfg = s.cfg ∧ (s.receiveCode bits).meas = s.meas ∧ (s.receiveCode bits).comp = s.comp ∧
    (s.receiveCode bits).peers = s.peers ∧ (s.receiveCode bits).line = s.line ∧ (s.receiveCode bits).ice = s.ice ∧
    (s.receiveCode bits).fog = s.fog ∧ (s.receiveCode bits).heat = s.heat ∧ (s.receiveCode bits).light = s.light ∧
    (s.receiveCode bits).gens = s.gens ∧ (s.receiveCode bits).pins = s.pins ∧ (s.receiveCode bits).node = s.node ∧
    (s.receiveCode bits).resetHeld = s.resetHeld ∧ (s.receiveCode bits).freeCount = s.freeCount ∧
    (s.receiveCode bits).pending = s.pending ∧ (s.receiveCode bits).port.waitHigh = s.port.waitHigh ∧
    (s.receiveCode bits).port.stage = s.port.stage ∧ (s.receiveCode bits).port.snapshot = s.port.snapshot ∧
    (s.receiveCode bits).port.lastResult = s.port.lastResult ∧
    (s.receiveCode bits).port.scenePointer = s.port.scenePointer ∧
    (s.receiveCode bits).port.capturedSet = s.port.capturedSet := by
  simp [receiveCode_eq]

/-- What a capture leaves alone (R164). -/
@[simp] theorem captureWindow_frame (s : State) (w : Window) :
    (s.captureWindow w).cfg = s.cfg ∧ (s.captureWindow w).meas = s.meas ∧ (s.captureWindow w).comp = s.comp ∧
    (s.captureWindow w).peers = s.peers ∧ (s.captureWindow w).line = s.line ∧ (s.captureWindow w).ice = s.ice ∧
    (s.captureWindow w).fog = s.fog ∧ (s.captureWindow w).heat = s.heat ∧ (s.captureWindow w).light = s.light ∧
    (s.captureWindow w).gens = s.gens ∧ (s.captureWindow w).pins = s.pins ∧ (s.captureWindow w).node = s.node ∧
    (s.captureWindow w).resetHeld = s.resetHeld ∧ (s.captureWindow w).pending = s.pending ∧
    (s.captureWindow w).port.waitHigh = s.port.waitHigh ∧ (s.captureWindow w).port.code = s.port.code ∧
    (s.captureWindow w).port.pdo = s.port.pdo ∧ (s.captureWindow w).port.lastResult = s.port.lastResult ∧
    (s.captureWindow w).port.scenePointer = s.port.scenePointer := by
  simp [State.captureWindow, SetupPort.openShift]

/-- What the entry into SHIFT with the pass stage leaves alone (R163). -/
@[simp] theorem openPass_frame (s : State) (c : Code) :
    (s.openPass c).cfg = s.cfg ∧ (s.openPass c).meas = s.meas ∧ (s.openPass c).comp = s.comp ∧
    (s.openPass c).peers = s.peers ∧ (s.openPass c).line = s.line ∧ (s.openPass c).ice = s.ice ∧
    (s.openPass c).fog = s.fog ∧ (s.openPass c).heat = s.heat ∧ (s.openPass c).light = s.light ∧
    (s.openPass c).gens = s.gens ∧ (s.openPass c).pins = s.pins ∧ (s.openPass c).node = s.node ∧
    (s.openPass c).resetHeld = s.resetHeld ∧ (s.openPass c).freeCount = s.freeCount ∧ (s.openPass c).pending = s.pending ∧
    (s.openPass c).port.waitHigh = s.port.waitHigh ∧ (s.openPass c).port.code = s.port.code ∧
    (s.openPass c).port.pdo = s.port.pdo ∧ (s.openPass c).port.snapshot = s.port.snapshot ∧
    (s.openPass c).port.lastResult = s.port.lastResult ∧ (s.openPass c).port.scenePointer = s.port.scenePointer ∧
    (s.openPass c).port.capturedSet = s.port.capturedSet := by
  simp [State.openPass, SetupPort.openShift]

/-- What the shifting leaves alone (R165). -/
@[simp] theorem shiftBits_frame (s : State) (pdi : Bits) :
    (s.shiftBits pdi).cfg = s.cfg ∧ (s.shiftBits pdi).meas = s.meas ∧ (s.shiftBits pdi).comp = s.comp ∧
    (s.shiftBits pdi).peers = s.peers ∧ (s.shiftBits pdi).line = s.line ∧ (s.shiftBits pdi).ice = s.ice ∧
    (s.shiftBits pdi).fog = s.fog ∧ (s.shiftBits pdi).heat = s.heat ∧ (s.shiftBits pdi).light = s.light ∧
    (s.shiftBits pdi).gens = s.gens ∧ (s.shiftBits pdi).pins = s.pins ∧ (s.shiftBits pdi).node = s.node ∧
    (s.shiftBits pdi).resetHeld = s.resetHeld ∧ (s.shiftBits pdi).freeCount = s.freeCount ∧
    (s.shiftBits pdi).pending = s.pending ∧ (s.shiftBits pdi).port.state = s.port.state ∧
    (s.shiftBits pdi).port.waitHigh = s.port.waitHigh ∧ (s.shiftBits pdi).port.code = s.port.code ∧
    (s.shiftBits pdi).port.snapshot = s.port.snapshot ∧ (s.shiftBits pdi).port.lastResult = s.port.lastResult ∧
    (s.shiftBits pdi).port.scenePointer = s.port.scenePointer ∧
    (s.shiftBits pdi).port.capturedSet = s.port.capturedSet := by
  simp [State.shiftBits]

/-- The rise of PSEL touches the port state alone (R162). -/
@[simp] theorem raiseSelect_frame (s : State) :
    (s.raiseSelect).cfg = s.cfg ∧ (s.raiseSelect).meas = s.meas ∧ (s.raiseSelect).comp = s.comp ∧
    (s.raiseSelect).peers = s.peers ∧ (s.raiseSelect).line = s.line ∧ (s.raiseSelect).ice = s.ice ∧
    (s.raiseSelect).fog = s.fog ∧ (s.raiseSelect).heat = s.heat ∧ (s.raiseSelect).light = s.light ∧
    (s.raiseSelect).gens = s.gens ∧ (s.raiseSelect).pins = s.pins ∧ (s.raiseSelect).node = s.node ∧
    (s.raiseSelect).resetHeld = s.resetHeld ∧ (s.raiseSelect).freeCount = s.freeCount ∧
    (s.raiseSelect).pending = s.pending ∧ (s.raiseSelect).port.waitHigh = s.port.waitHigh ∧
    (s.raiseSelect).port.code = s.port.code ∧ (s.raiseSelect).port.count = s.port.count ∧
    (s.raiseSelect).port.stage = s.port.stage ∧ (s.raiseSelect).port.snapshot = s.port.snapshot ∧
    (s.raiseSelect).port.pdo = s.port.pdo ∧ (s.raiseSelect).port.lastResult = s.port.lastResult ∧
    (s.raiseSelect).port.scenePointer = s.port.scenePointer ∧ (s.raiseSelect).port.capturedSet = s.port.capturedSet := by
  simp [State.raiseSelect, SetupPort.deselect]

/-- Another last result touches it alone. -/
@[simp] theorem setResult_frame (s : State) (r : PortResult) :
    (s.setResult r).cfg = s.cfg ∧ (s.setResult r).meas = s.meas ∧ (s.setResult r).comp = s.comp ∧
    (s.setResult r).peers = s.peers ∧ (s.setResult r).line = s.line ∧ (s.setResult r).ice = s.ice ∧
    (s.setResult r).fog = s.fog ∧ (s.setResult r).heat = s.heat ∧ (s.setResult r).light = s.light ∧
    (s.setResult r).gens = s.gens ∧ (s.setResult r).pins = s.pins ∧ (s.setResult r).node = s.node ∧
    (s.setResult r).resetHeld = s.resetHeld ∧ (s.setResult r).freeCount = s.freeCount ∧
    (s.setResult r).pending = s.pending ∧ (s.setResult r).port.state = s.port.state ∧
    (s.setResult r).port.waitHigh = s.port.waitHigh ∧ (s.setResult r).port.code = s.port.code ∧
    (s.setResult r).port.count = s.port.count ∧ (s.setResult r).port.stage = s.port.stage ∧
    (s.setResult r).port.snapshot = s.port.snapshot ∧ (s.setResult r).port.pdo = s.port.pdo ∧
    (s.setResult r).port.scenePointer = s.port.scenePointer ∧ (s.setResult r).port.capturedSet = s.port.capturedSet := by
  simp [State.setResult]

/-- The last result that was set. -/
@[simp] theorem setResult_lastResult (s : State) (r : PortResult) : (s.setResult r).port.lastResult = r := rfl

/-- The scene pointer set touches it alone (R165). -/
@[simp] theorem setPointer_frame (s : State) (pdi : Bits) :
    (s.setPointer pdi).cfg = s.cfg ∧ (s.setPointer pdi).meas = s.meas ∧ (s.setPointer pdi).comp = s.comp ∧
    (s.setPointer pdi).peers = s.peers ∧ (s.setPointer pdi).line = s.line ∧ (s.setPointer pdi).ice = s.ice ∧
    (s.setPointer pdi).fog = s.fog ∧ (s.setPointer pdi).heat = s.heat ∧ (s.setPointer pdi).light = s.light ∧
    (s.setPointer pdi).gens = s.gens ∧ (s.setPointer pdi).pins = s.pins ∧ (s.setPointer pdi).node = s.node ∧
    (s.setPointer pdi).resetHeld = s.resetHeld ∧ (s.setPointer pdi).freeCount = s.freeCount ∧
    (s.setPointer pdi).pending = s.pending ∧ (s.setPointer pdi).port.state = s.port.state ∧
    (s.setPointer pdi).port.waitHigh = s.port.waitHigh ∧ (s.setPointer pdi).port.code = s.port.code ∧
    (s.setPointer pdi).port.count = s.port.count ∧ (s.setPointer pdi).port.stage = s.port.stage ∧
    (s.setPointer pdi).port.snapshot = s.port.snapshot ∧ (s.setPointer pdi).port.pdo = s.port.pdo ∧
    (s.setPointer pdi).port.lastResult = s.port.lastResult ∧ (s.setPointer pdi).port.capturedSet = s.port.capturedSet := by
  simp [State.setPointer]

/-- What a configuration write leaves alone (R167). -/
@[simp] theorem applyWrite_frame (s : State) (w : Window) (d : Nat) :
    (s.applyWrite w d).meas = s.meas ∧ (s.applyWrite w d).comp = s.comp ∧ (s.applyWrite w d).peers = s.peers ∧
    (s.applyWrite w d).line = s.line ∧ (s.applyWrite w d).ice = s.ice ∧ (s.applyWrite w d).fog = s.fog ∧
    (s.applyWrite w d).heat = s.heat ∧ (s.applyWrite w d).light = s.light ∧ (s.applyWrite w d).gens = s.gens ∧
    (s.applyWrite w d).pins = s.pins ∧ (s.applyWrite w d).node = s.node ∧
    (s.applyWrite w d).resetHeld = s.resetHeld ∧ (s.applyWrite w d).freeCount = s.freeCount ∧
    (s.applyWrite w d).pending = s.pending ∧ (s.applyWrite w d).port.state = s.port.state ∧
    (s.applyWrite w d).port.waitHigh = s.port.waitHigh ∧ (s.applyWrite w d).port.code = s.port.code ∧
    (s.applyWrite w d).port.count = s.port.count ∧ (s.applyWrite w d).port.stage = s.port.stage ∧
    (s.applyWrite w d).port.snapshot = s.port.snapshot ∧ (s.applyWrite w d).port.pdo = s.port.pdo ∧
    (s.applyWrite w d).port.scenePointer = s.port.scenePointer ∧
    (s.applyWrite w d).port.capturedSet = s.port.capturedSet := by
  simp only [State.applyWrite]
  (repeat' split) <;> simp

/-- What a START leaves alone (R168). -/
@[simp] theorem actStart_frame (s : State) :
    (s.actStart).cfg = s.cfg ∧ (s.actStart).gens = s.gens ∧ (s.actStart).resetHeld = s.resetHeld ∧
    (s.actStart).freeCount = s.freeCount ∧ (s.actStart).pending = s.pending := by
  simp only [State.actStart]
  (repeat' split) <;> simp

/-- What a RESTART leaves alone (R168). -/
@[simp] theorem actRestart_frame (s : State) :
    (s.actRestart).cfg = s.cfg ∧ (s.actRestart).resetHeld = s.resetHeld ∧ (s.actRestart).freeCount = s.freeCount ∧
    (s.actRestart).pending = s.pending := by
  simp only [State.actRestart]
  (repeat' split) <;> simp

/-- What an ACK leaves alone (R168, R169). -/
@[simp] theorem actAck_frame (s : State) :
    (s.actAck).cfg = s.cfg ∧ (s.actAck).meas = s.meas ∧ (s.actAck).comp = s.comp ∧ (s.actAck).peers = s.peers ∧
    (s.actAck).line = s.line ∧ (s.actAck).ice = s.ice ∧ (s.actAck).fog = s.fog ∧ (s.actAck).heat = s.heat ∧
    (s.actAck).light = s.light ∧ (s.actAck).gens = s.gens ∧ (s.actAck).pins = s.pins ∧
    (s.actAck).resetHeld = s.resetHeld ∧ (s.actAck).freeCount = s.freeCount ∧ (s.actAck).pending = s.pending ∧
    (s.actAck).node.state = s.node.state ∧ (s.actAck).node.lastReset = s.node.lastReset ∧
    (s.actAck).node.startFault = s.node.startFault ∧ (s.actAck).node.startFaultIndex = s.node.startFaultIndex := by
  simp only [State.actAck]
  (repeat' split) <;> simp

/-- What a PULSE leaves alone (R149, R168). -/
@[simp] theorem actPulse_frame (s : State) (n : Fin 2) :
    (s.actPulse n).cfg = s.cfg ∧ (s.actPulse n).meas = s.meas ∧ (s.actPulse n).comp = s.comp ∧
    (s.actPulse n).peers = s.peers ∧ (s.actPulse n).ice = s.ice ∧ (s.actPulse n).fog = s.fog ∧
    (s.actPulse n).heat = s.heat ∧ (s.actPulse n).pins = s.pins ∧ (s.actPulse n).resetHeld = s.resetHeld ∧
    (s.actPulse n).freeCount = s.freeCount ∧ (s.actPulse n).pending = s.pending ∧
    (s.actPulse n).node.state = s.node.state ∧ (s.actPulse n).node.lastReset = s.node.lastReset ∧
    (s.actPulse n).node.startFault = s.node.startFault ∧ (s.actPulse n).node.startFaultIndex = s.node.startFaultIndex := by
  simp only [State.actPulse]
  (repeat' split) <;> simp

/-- What an action leaves alone (R168). -/
@[simp] theorem applyAction_frame (s : State) (n : Fin 5) :
    (s.applyAction n).cfg = s.cfg ∧ (s.applyAction n).resetHeld = s.resetHeld ∧
    (s.applyAction n).freeCount = s.freeCount ∧ (s.applyAction n).pending = s.pending := by
  simp only [State.applyAction]
  (repeat' split) <;> simp

/-- What the end of a transaction leaves alone (R166). -/
@[simp] theorem endTransaction_frame (s : State) (w : Window) (pdi : Bits) :
    (s.endTransaction w pdi).resetHeld = s.resetHeld ∧ (s.endTransaction w pdi).freeCount = s.freeCount ∧
    (s.endTransaction w pdi).pending = s.pending := by
  simp only [State.endTransaction]
  (repeat' split) <;> simp

/-- What a transaction on a window leaves alone. -/
@[simp] theorem transactWindow_frame (s : State) (c : Code) (w : Window) (pdi : Bits) :
    (s.transactWindow c w pdi).resetHeld = s.resetHeld ∧ (s.transactWindow c w pdi).pending = s.pending := by
  simp [State.transactWindow]

/-- A transaction under an unknown code touches the port alone (R163). -/
@[simp] theorem passThrough_frame (s : State) (c : Code) (pdi : Bits) :
    (s.passThrough c pdi).cfg = s.cfg ∧ (s.passThrough c pdi).meas = s.meas ∧ (s.passThrough c pdi).comp = s.comp ∧
    (s.passThrough c pdi).peers = s.peers ∧ (s.passThrough c pdi).line = s.line ∧ (s.passThrough c pdi).ice = s.ice ∧
    (s.passThrough c pdi).fog = s.fog ∧ (s.passThrough c pdi).heat = s.heat ∧ (s.passThrough c pdi).light = s.light ∧
    (s.passThrough c pdi).gens = s.gens ∧ (s.passThrough c pdi).pins = s.pins ∧ (s.passThrough c pdi).node = s.node ∧
    (s.passThrough c pdi).resetHeld = s.resetHeld ∧ (s.passThrough c pdi).freeCount = s.freeCount ∧
    (s.passThrough c pdi).pending = s.pending ∧ (s.passThrough c pdi).port.waitHigh = s.port.waitHigh ∧
    (s.passThrough c pdi).port.snapshot = s.port.snapshot ∧
    (s.passThrough c pdi).port.scenePointer = s.port.scenePointer ∧
    (s.passThrough c pdi).port.capturedSet = s.port.capturedSet := by
  simp [State.passThrough]

/-- What a transaction leaves alone. -/
@[simp] theorem transact_frame (s : State) (c : Code) (pdi : Bits) :
    (s.transact c pdi).resetHeld = s.resetHeld ∧ (s.transact c pdi).pending = s.pending := by
  simp only [State.transact]
  (repeat' split) <;> simp

/-- A transaction that ends in CODE touches the port alone (R166). -/
@[simp] theorem endInCode_frame (s : State) (bits : Bits) :
    (s.endInCode bits).cfg = s.cfg ∧ (s.endInCode bits).meas = s.meas ∧ (s.endInCode bits).comp = s.comp ∧
    (s.endInCode bits).peers = s.peers ∧ (s.endInCode bits).line = s.line ∧ (s.endInCode bits).ice = s.ice ∧
    (s.endInCode bits).fog = s.fog ∧ (s.endInCode bits).heat = s.heat ∧ (s.endInCode bits).light = s.light ∧
    (s.endInCode bits).gens = s.gens ∧ (s.endInCode bits).pins = s.pins ∧ (s.endInCode bits).node = s.node ∧
    (s.endInCode bits).resetHeld = s.resetHeld ∧ (s.endInCode bits).freeCount = s.freeCount ∧
    (s.endInCode bits).pending = s.pending ∧ (s.endInCode bits).port.waitHigh = s.port.waitHigh ∧ (s.endInCode bits).port.stage = s.port.stage ∧
    (s.endInCode bits).port.snapshot = s.port.snapshot ∧ (s.endInCode bits).port.scenePointer = s.port.scenePointer ∧
    (s.endInCode bits).port.capturedSet = s.port.capturedSet := by
  simp [State.endInCode]

/-- What the outside holds touches no record. -/
@[simp] theorem seePins_frame (s : State) (c : Code) (b : Board) :
    (s.seePins c b).cfg = s.cfg ∧ (s.seePins c b).meas = s.meas ∧ (s.seePins c b).comp = s.comp ∧
    (s.seePins c b).peers = s.peers ∧ (s.seePins c b).line = s.line ∧ (s.seePins c b).ice = s.ice ∧
    (s.seePins c b).fog = s.fog ∧ (s.seePins c b).heat = s.heat ∧ (s.seePins c b).light = s.light ∧
    (s.seePins c b).gens = s.gens ∧ (s.seePins c b).node = s.node ∧ (s.seePins c b).port = s.port ∧
    (s.seePins c b).resetHeld = s.resetHeld ∧ (s.seePins c b).freeCount = s.freeCount ∧
    (s.seePins c b).pending = s.pending ∧ (s.seePins c b).pins.cueInputs = s.pins.cueInputs := by
  simp only [State.seePins]
  (repeat' split) <;> simp

end Sys2Proof.Machine
end

