-- ==== Sys2Proof/Laws/PerInstr.lean ====
section
/-!
SUPPORT. The family of statements made for every row of spec/opcode_table.json: no row has a word, so none is spelled by one. One
lemma for each constructor of Instr.
-/
namespace Sys2Proof.Laws.Row

/-- No word of any width spells the command: the table gives its row no bits. -/
def Statement (i : Instr) : Prop := ∀ nbits w : Nat, decodeTableWord nbits w ≠ some i

/-- POWER_ON. -/
theorem powerOn (psel : SelectLevel) : Statement (.powerOn psel) := fun _ _ => nofun

/-- RESET_PIN_ASSERTION. -/
theorem resetPinAssertion : Statement .resetPinAssertion := fun _ _ => nofun

/-- RESET_PIN_RELEASE. -/
theorem resetPinRelease (psel : SelectLevel) : Statement (.resetPinRelease psel) := fun _ _ => nofun

/-- START. -/
theorem start : Statement .start := fun _ _ => nofun

/-- RESTART. -/
theorem restart : Statement .restart := fun _ _ => nofun

/-- ACK. -/
theorem ack : Statement .ack := fun _ _ => nofun

/-- PULSE. -/
theorem pulse (n : Fin 2) : Statement (.pulse n) := fun _ _ => nofun

/-- CAUSES_SNAPSHOT. -/
theorem causesSnapshot (pdi : Bits) : Statement (.causesSnapshot pdi) := fun _ _ => nofun

/-- CONFIGURATION_WRITE. -/
theorem configurationWrite (code : Code) (pdi : Bits) : Statement (.configurationWrite code pdi) := fun _ _ => nofun

/-- SCENE_WRITE. -/
theorem sceneWrite (pdi : Bits) : Statement (.sceneWrite pdi) := fun _ _ => nofun

/-- UNKNOWN_CODE. -/
theorem unknownCode (code : Code) (pdi : Bits) : Statement (.unknownCode code pdi) := fun _ _ => nofun

/-- DISCARDED_LENGTH. -/
theorem discardedLength (pdi : Bits) : Statement (.discardedLength pdi) := fun _ _ => nofun

/-- ZERO_REFERENCE_CONVERSION. -/
theorem zeroReferenceConversion (n : Fin 12) (raw : Counts) : Statement (.zeroReferenceConversion n raw) := fun _ _ => nofun

/-- ZERO_MEASUREMENT_COMPLETE. -/
theorem zeroMeasurementComplete (n : Fin 12) (raw : Counts) : Statement (.zeroMeasurementComplete n raw) := fun _ _ => nofun

/-- SCAN. -/
theorem scan : Statement .scan := fun _ _ => nofun

/-- CHANNEL_CONVERSION. -/
theorem channelConversion (n : Fin 12) (raw : Counts) : Statement (.channelConversion n raw) := fun _ _ => nofun

/-- SENSOR_FAILED. -/
theorem sensorFailed (n : Fin 12) (raw : Counts) : Statement (.sensorFailed n raw) := fun _ _ => nofun

/-- CHANNEL_RECOVERY. -/
theorem channelRecovery (n : Fin 12) (raw : Counts) : Statement (.channelRecovery n raw) := fun _ _ => nofun

/-- STATUS_PERIOD_EXPIRY. -/
theorem statusPeriodExpiry : Statement .statusPeriodExpiry := fun _ _ => nofun

/-- PHASE_SPLIT. -/
theorem phaseSplit (address : Nat) : Statement (.phaseSplit address) := fun _ _ => nofun

/-- ENTER_RUN. -/
theorem enterRun : Statement .enterRun := fun _ _ => nofun

/-- AGEING_STEP. -/
theorem ageingStep : Statement .ageingStep := fun _ _ => nofun

/-- ENTRY_STALE. -/
theorem entryStale (address : Nat) : Statement (.entryStale address) := fun _ _ => nofun

/-- ENTRY_LOST. -/
theorem entryLost (address : Nat) : Statement (.entryLost address) := fun _ _ => nofun

/-- STATUS_RECEIVED. -/
theorem statusReceived (f : Frame) : Statement (.statusReceived f) := fun _ _ => nofun

/-- FOG_RECEIVED. -/
theorem fogReceived (f : Frame) : Statement (.fogReceived f) := fun _ _ => nofun

/-- CUE_RECEIVED. -/
theorem cueReceived (f : Frame) : Statement (.cueReceived f) := fun _ _ => nofun

/-- REPLAY_RECEIVED. -/
theorem replayReceived (f : Frame) : Statement (.replayReceived f) := fun _ _ => nofun

/-- RECALL_RECEIVED. -/
theorem recallReceived (f : Frame) : Statement (.recallReceived f) := fun _ _ => nofun

/-- INVALID_FRAME. -/
theorem invalidFrame (r : BadReception) : Statement (.invalidFrame r) := fun _ _ => nofun

/-- FRAGMENT. -/
theorem fragment (r : FragmentForm) : Statement (.fragment r) := fun _ _ => nofun

/-- RELEASE. -/
theorem release : Statement .release := fun _ _ => nofun

/-- DEFER. -/
theorem defer : Statement .defer := fun _ _ => nofun

/-- SLOT_START. -/
theorem slotStart : Statement .slotStart := fun _ _ => nofun

/-- COLLISION. -/
theorem collision : Statement .collision := fun _ _ => nofun

/-- DISTURBANCE. -/
theorem disturbance : Statement .disturbance := fun _ _ => nofun

/-- FRAME_DROP. -/
theorem frameDrop (how : AttemptFailure) : Statement (.frameDrop how) := fun _ _ => nofun

/-- WHOLE_SEND. -/
theorem wholeSend : Statement .wholeSend := fun _ _ => nofun

/-- STUCK_LINE. -/
theorem stuckLine : Statement .stuckLine := fun _ _ => nofun

/-- STUCK_LINE_END. -/
theorem stuckLineEnd : Statement .stuckLineEnd := fun _ _ => nofun

/-- ICE_EVALUATION. -/
theorem iceEvaluation : Statement .iceEvaluation := fun _ _ => nofun

/-- FLOOD_END. -/
theorem floodEnd : Statement .floodEnd := fun _ _ => nofun

/-- ICE_WARM. -/
theorem iceWarm : Statement .iceWarm := fun _ _ => nofun

/-- ICE_HOLD_END. -/
theorem iceHoldEnd : Statement .iceHoldEnd := fun _ _ => nofun

/-- FOG_EVALUATION. -/
theorem fogEvaluation : Statement .fogEvaluation := fun _ _ => nofun

/-- BEAM_FOG_SET. -/
theorem beamFogSet : Statement .beamFogSet := fun _ _ => nofun

/-- BEAM_FOG_CLEAR. -/
theorem beamFogClear : Statement .beamFogClear := fun _ _ => nofun

/-- MARGIN_UNAVAILABLE. -/
theorem marginUnavailable : Statement .marginUnavailable := fun _ _ => nofun

/-- BACKUP_EXPIRY. -/
theorem backupExpiry : Statement .backupExpiry := fun _ _ => nofun

/-- BACKUP_ON. -/
theorem backupOn (n : Fin 4) : Statement (.backupOn n) := fun _ _ => nofun

/-- LOOP_FALLBACK. -/
theorem loopFallback (n : Fin 4) : Statement (.loopFallback n) := fun _ _ => nofun

/-- FADE_STEP. -/
theorem fadeStep : Statement .fadeStep := fun _ _ => nofun

/-- PENDING_CUE_EXPIRY. -/
theorem pendingCueExpiry : Statement .pendingCueExpiry := fun _ _ => nofun

/-- FADE_END. -/
theorem fadeEnd (n : Fin 8) : Statement (.fadeEnd n) := fun _ _ => nofun

/-- CAP_STEP. -/
theorem capStep : Statement .capStep := fun _ _ => nofun

/-- CUE_INPUT_SAMPLE. -/
theorem cueInputSample (board : Board) : Statement (.cueInputSample board) := fun _ _ => nofun

/-- CUE_INPUT_ARM. -/
theorem cueInputArm (n : Fin 2) (board : Board) : Statement (.cueInputArm n board) := fun _ _ => nofun

/-- ACCEPTED_EDGE. -/
theorem acceptedEdge (n : Fin 2) (board : Board) : Statement (.acceptedEdge n board) := fun _ _ => nofun

/-- GENERATOR_PERIOD_START. -/
theorem generatorPeriodStart (g : GeneratorId) : Statement (.generatorPeriodStart g) := fun _ _ => nofun

/-- GENERATOR_COUNT_REACHES_LEVEL. -/
theorem generatorCountReachesLevel (g : GeneratorId) : Statement (.generatorCountReachesLevel g) := fun _ _ => nofun

/-- STROBE_TIMER_EXPIRY. -/
theorem strobeTimerExpiry (n : Fin 8) : Statement (.strobeTimerExpiry n) := fun _ _ => nofun

/-- VALID_FRAME_OWN_ADDRESS. -/
theorem validFrameOwnAddress (f : Frame) : Statement (.validFrameOwnAddress f) := fun _ _ => nofun

/-- READ_ONLY_WINDOW_TRANSACTION. -/
theorem readOnlyWindowTransaction (code : Code) (pdi : Bits) (board : Board) : Statement (.readOnlyWindowTransaction code pdi board) := fun _ _ => nofun

/-- PSEL_SEEN_HIGH. -/
theorem pselSeenHigh : Statement .pselSeenHigh := fun _ _ => nofun

end Sys2Proof.Laws.Row
end

