-- ==== Sys2Proof/Laws/Values.lean ====
section
/-!
SUPPORT. What each shared operation does, said once for each in the terms of Safety.lean, so that no later proof unfolds it.
-/
namespace Sys2Proof.Machine

/-! ### Causes and the score -/

/-- An entry raised (R159). -/
theorem raise_causes (s : State) (c : Cause) :
    (s.raise c).node.causes = setAt s.node.causes (causeIndex c) (s.node.causes[(causeIndex c).val]).raised := rfl

/-- A cause raised once (R159). -/
theorem raise_after (s : State) (c : Cause) : CausesAfter s (s.raise c) (causeIndex c) 1 := by
  refine ⟨fun j hj => ?_, ?_⟩
  · rw [raise_causes, setAt_getElem_ne _ _ _ _ (Ne.symm hj)]
  · rw [raise_causes, setAt_getElem_self]
    simp [CauseEntry.raised]

/-- A cause raised once for each occurrence (R159). -/
theorem raiseTimes_after (s : State) (c : Cause) (k : Nat) : CausesAfter s (s.raiseTimes c k) (causeIndex c) k := by
  induction k generalizing s with
  | zero => exact ⟨fun _ _ => rfl, by simp [State.raiseTimes]⟩
  | succ k ih =>
    obtain ⟨h1, h2⟩ := ih (s.raise c)
    obtain ⟨g1, g2⟩ := raise_after s c
    refine ⟨fun j hj => (h1 j hj).trans (g1 j hj), ?_⟩
    rw [State.raiseTimes, h2, g2]
    by_cases hk : k = 0
    · simp [hk]
    · simp [hk]
      omega

/-- Raising causes rewrites the cause record alone. -/
theorem raiseTimes_eq (s : State) (c : Cause) (k : Nat) :
    s.raiseTimes c k = s.setNode { s.node with causes := (s.raiseTimes c k).node.causes } := by
  induction k generalizing s with
  | zero => rfl
  | succ k ih =>
    rw [State.raiseTimes, ih (s.raise c)]
    rfl

/-- Raising a cause where a condition holds rewrites the cause record alone. -/
theorem raiseIf_eq (s : State) (b : Bool) (c : Cause) :
    s.raiseIf b c = s.setNode { s.node with causes := (s.raiseIf b c).node.causes } := by
  cases b <;> rfl

/-- A cause raised where a condition holds (R159). -/
theorem raiseIf_after (s : State) (b : Bool) (c : Cause) :
    CausesAfter s (s.raiseIf b c) (causeIndex c) (if b then 1 else 0) := by
  cases b
  · exact ⟨fun _ _ => rfl, by simp [State.raiseIf]⟩
  · exact raise_after s c

/-- Only the cause records are compared. -/
theorem CausesAfter.congr {s t s' t' : State} {i : Fin 12} {k : Nat} (h : CausesAfter s t i k)
    (hs : s'.node.causes = s.node.causes) (ht : t'.node.causes = t.node.causes) : CausesAfter s' t' i k := by
  unfold CausesAfter at *
  rw [hs, ht]
  exact h

/-- No cause raised. -/
theorem CausesAfter.none (s t : State) (i : Fin 12) (h : t.node.causes = s.node.causes) : CausesAfter s t i 0 := by
  unfold CausesAfter
  rw [h]
  simp

/-- Two raisings of one cause, one after the other (R159). -/
theorem CausesAfter.trans {s t u : State} {i : Fin 12} {k l : Nat} (h : CausesAfter s t i k) (g : CausesAfter t u i l) :
    CausesAfter s u i (k + l) := by
  refine ⟨fun j hj => (g.1 j hj).trans (h.1 j hj), ?_⟩
  rw [g.2, h.2]
  rcases Nat.eq_zero_or_pos k with rfl | hk <;> rcases Nat.eq_zero_or_pos l with rfl | hl
  · simp
  · simp
  · simp
  · have h1 : k ≠ 0 := by omega
    have h2 : l ≠ 0 := by omega
    simp [h1, h2]
    omega

/-- A rise of the score (R53). -/
theorem scoreUp_bad (s : State) : ScoredBad s s.scoreUp := by
  refine ⟨by simp [State.scoreUp], ?_, ?_⟩
  · simp only [State.scoreUp, raiseIf_frame, State.setLine_line]
    cases s.line.degraded <;> simp
  · have h := raiseIf_after (s.setLine { s.line with
      score := min 255 (s.line.score + 8)
      degraded := s.line.degraded || (decide (96 ≤ min 255 (s.line.score + 8)) && !s.line.degraded) })
        (decide (96 ≤ min 255 (s.line.score + 8)) && !s.line.degraded) .lineDegraded
    refine CausesAfter.congr ?_ (t := s.scoreUp) (s := s) rfl rfl
    have e : (if s.line.degraded = false ∧ 96 ≤ min 255 (s.line.score + 8) then 1 else 0) =
        if (decide (96 ≤ min 255 (s.line.score + 8)) && !s.line.degraded) = true then 1 else 0 := by
      by_cases h1 : s.line.degraded = false <;> by_cases h2 : 96 ≤ min 255 (s.line.score + 8) <;> simp_all
    rw [e]
    exact h.congr (by simp) rfl

/-- A fall of the score (R53). -/
theorem scoreDown_good (s : State) : ScoredGood s s.scoreDown := by
  refine ⟨by simp [State.scoreDown], ?_⟩
  simp only [State.scoreDown, State.setLine_line]
  congr 1
  by_cases h : s.line.score - 1 < 32
  · simp [h]
  · simp [h]
    omega

/-! ### The transmit queue -/

/-- The head of the queue and the queue without it (R47, R48). -/
theorem head_of_headOf {q q' : TxQueue} {x : Queued} (h : HeadOf q q' x) : q.head = some x ∧ q.withoutHead = q' := by
  obtain ⟨h1, rfl⟩ | ⟨h1, rest, h2, rfl⟩ | ⟨h1, h2, h3, rfl⟩ | ⟨h1, h2, h3, h4, rfl⟩ | ⟨h1, h2, h3, h4, h5, rfl⟩ := h <;>
    simp_all [TxQueue.head, TxQueue.withoutHead]

/-- A frame given back to the queue (R48). -/
theorem giveBack_returned (q : TxQueue) (x : Queued) : ReturnedTo q (q.giveBack x) x := by
  unfold ReturnedTo TxQueue.giveBack
  cases x.frame <;> simp_all
  · cases q; rename_i a b c d e; cases a <;> simp
  · cases q; rename_i a b c d e; cases b <;> simp

/-! ### Entries into MUTE -/

/-- A generator written once for each configured loop, by the loops in a list (R106). -/
theorem foldl_valves (g : State → Fin 4 → State) (duty : Fin 4 → Nat) (s : State)
    (hcfg : ∀ t n, (g t n).cfg = t.cfg)
    (hoff : ∀ t n, (t.cfg.loops[n.val]).cls = none → (g t n).gens = t.gens)
    (hon : ∀ t n, t.cfg = s.cfg → (t.cfg.loops[n.val]).cls ≠ none → (∃ l : List (Fin 4), t = l.foldl g s ∧ n ∉ l) →
      (g t n).gens.valves = setAt t.gens.valves (t.cfg.loops[n.val]).valve
        ((t.gens.valves[((t.cfg.loops[n.val]).valve).val]).write (duty n)))
    (l : List (Fin 4)) (hl : l.Nodup) (v : Fin 4) :
    ((∀ n ∈ l, (s.cfg.loops[n.val]).cls = none ∨ (s.cfg.loops[n.val]).valve ≠ v) →
      (l.foldl g s).gens.valves[v.val] = s.gens.valves[v.val]) ∧
    ∀ n ∈ l, (s.cfg.loops[n.val]).cls ≠ none → (s.cfg.loops[n.val]).valve = v →
      (∀ m ∈ l, m ≠ n → (s.cfg.loops[m.val]).cls = none ∨ (s.cfg.loops[m.val]).valve ≠ v) →
      (l.foldl g s).gens.valves[v.val] = (s.gens.valves[v.val]).write (duty n) := by
  induction l using List.reverseRecOn with
  | nil => simp
  | append_singleton l a ih =>
    have hnd : l.Nodup ∧ a ∉ l := by
      rw [List.nodup_append] at hl
      refine ⟨hl.1, fun ha => ?_⟩
      exact hl.2.2 a ha a (by simp) rfl
    obtain ⟨i1, i2⟩ := ih hnd.1
    have hc : (l.foldl g s).cfg = s.cfg := foldl_keeps (fun t => t.cfg) g (fun t n => hcfg t n) l s
    have skip : ((s.cfg.loops[a.val]).cls = none ∨ (s.cfg.loops[a.val]).valve ≠ v) →
        ((l ++ [a]).foldl g s).gens.valves[v.val] = (l.foldl g s).gens.valves[v.val] := by
      intro h
      rw [List.foldl_append, List.foldl_cons, List.foldl_nil]
      by_cases hn : (s.cfg.loops[a.val]).cls = none
      · rw [hoff _ _ (by rw [hc]; exact hn)]
      · rw [hon _ _ hc (by rw [hc]; exact hn) ⟨l, rfl, hnd.2⟩]
        have := h.resolve_left hn
        rw [setAt_getElem_ne _ _ _ _ (by rw [hc]; exact this)]
    refine ⟨fun h => ?_, fun n hn hcls hv hm => ?_⟩
    · rw [skip (h a (by simp)), i1 (fun n hn => h n (by simp [hn]))]
    · rcases List.mem_append.mp hn with hl' | ha
      · have hne : a ≠ n := fun e => hnd.2 (e ▸ hl')
        rw [skip (hm a (by simp) hne), i2 n hl' hcls hv (fun m hm' => hm m (by simp [hm']))]
      · have e : n = a := by simpa using ha
        subst e
        rw [List.foldl_append, List.foldl_cons, List.foldl_nil, hon _ _ hc (by rw [hc]; exact hcls) ⟨l, rfl, hnd.2⟩]
        simp only [hc, hv, setAt_getElem_self]
        rw [i1 (fun m hm' => hm m (by simp [hm']) (fun e => hnd.2 (e ▸ hm')))]

/-- One loop's part of writing every configured duty as 0 (R105). -/
def zeroDuty (t : State) (n : Fin 4) : State :=
  if (t.cfg.loops[n.val]).cls.isSome then
    (t.setHeat { t.heat with loops := setAt t.heat.loops n { t.heat.loops[n.val] with duty := 0 } }).writeValve
      (t.cfg.loops[n.val]).valve 0
  else t

/-- Writing every configured duty as 0 is one part for each loop, in ascending index. -/
theorem writeZeroDuties_eq (s : State) : s.writeZeroDuties = (List.finRange 4).foldl zeroDuty s := rfl

/-- No dimmer generator is written by it (R105). -/
@[simp] theorem writeZeroDuties_dimmers (s : State) : s.writeZeroDuties.gens.dimmers = s.gens.dimmers := by
  refine foldl_keeps (fun t => t.gens.dimmers) _ (fun t n => ?_) _ s
  split <;> simp

/-- No dimmer generator is written by step 6 of an evaluation (R106). -/
@[simp] theorem writeDuties_dimmers (s : State) : s.writeDuties.gens.dimmers = s.gens.dimmers := by
  refine foldl_keeps (fun t => t.gens.dimmers) _ (fun t n => ?_) _ s
  simp only [State.writeDuty]
  split <;> simp

/-- No dimmer generator is written by the valve generators' zeros (R141). -/
@[simp] theorem writeZeroValves_dimmers (s : State) : s.writeZeroValves.gens.dimmers = s.gens.dimmers :=
  foldl_keeps (fun t => t.gens.dimmers) _ (fun t n => by simp) _ s

/-- Every configured loop's duty is 0 after it, and nothing else of a loop is touched (R105). -/
theorem writeZeroDuties_loops (s : State) (n : Fin 4) :
    s.writeZeroDuties.heat.loops[n.val] =
      if (s.cfg.loops[n.val]).cls.isSome then { s.heat.loops[n.val] with duty := 0 } else s.heat.loops[n.val] := by
  have h : ∀ (t : State) (m : Fin 4), (zeroDuty t m).cfg = t.cfg ∧ (zeroDuty t m).heat.loops[n.val] =
      if m = n ∧ (t.cfg.loops[n.val]).cls.isSome then { t.heat.loops[n.val] with duty := 0 } else t.heat.loops[n.val] := by
    intro t m
    unfold zeroDuty
    split
    · rename_i hm
      refine ⟨by simp, ?_⟩
      simp only [writeValve_frame, State.setHeat_heat, setAt_getElem]
      by_cases e : m = n
      · subst e; simp [hm]
      · simp [e, Fin.val_ne_of_ne e]
    · rename_i hm
      refine ⟨rfl, ?_⟩
      by_cases e : m = n
      · subst e; simp [hm]
      · simp [e]
  rw [writeZeroDuties_eq, show List.finRange 4 = [0, 1, 2, 3] from rfl]
  simp only [List.foldl_cons, List.foldl_nil, h]
  fin_cases n <;> simp

/-- The valve generators after it (R105, R134). -/
theorem writeZeroDuties_valves (s : State) : ValvesWritten s s.writeZeroDuties (fun _ => 0) := by
  intro v
  have h := foldl_valves zeroDuty (fun _ => 0) s
    (fun t n => by unfold zeroDuty; split <;> simp)
    (fun t n hn => by unfold zeroDuty; simp [hn])
    (fun t n _ hn _ => by
      unfold zeroDuty
      rw [if_pos (Option.isSome_iff_ne_none.mpr hn)]
      rfl)
    (List.finRange 4) (List.nodup_finRange 4) v
  refine ⟨fun hn => h.1 (fun n _ => hn n), fun n hn hv hm => h.2 n (List.mem_finRange n) hn hv (fun m _ => hm m)⟩

/-- An entry into MUTE (R18, R56, R105). -/
theorem enterMute_entered (s : State) (k : MuteKind) : MuteEntered s (s.enterMute k) k := by
  refine ⟨by simp [State.enterMute], by simp [State.enterMute], by simp [State.enterMute], by simp [State.enterMute],
    by simp [State.enterMute], ?_, ?_, ?_, ?_⟩
  · by_cases h : s.node.state = .listen <;> simp [State.enterMute, h]
  · intro h
    simp [State.enterMute, h]
  · intro n
    simp only [State.enterMute, State.setNodeState, State.setNode_heat, writeZeroDuties_loops]
    simp only [State.setHeat_heat, State.setHeat_cfg, State.setComp_cfg, State.setLine_cfg, HeatLive.withoutGrants, mapAt_getElem]
    cases h : (s.cfg.loops[n.val]).cls <;> simp
  · intro v
    have h := writeZeroDuties_valves (((s.setLine { s.line with
      queue := .empty, stage := none, access := if s.line.access = .sending then .closed else s.line.access }).setComp
      (if s.node.state = .listen then { s.comp with expiryCount := 0 } else s.comp)).setHeat s.heat.withoutGrants) v
    simpa [State.enterMute] using h

/-- What an entry into MUTE does rests on these parts of the state before it. -/
theorem MuteEntered.congr {s s' t : State} {k : MuteKind} (h : MuteEntered s t k) (hc : s'.cfg = s.cfg)
    (hh : s'.heat = s.heat) (hg : s'.gens = s.gens) (hm : s'.comp = s.comp) (hn : s'.node.state = s.node.state)
    (ho : s'.line.ownSequence = s.line.ownSequence) (hs : s'.line.cueSerial = s.line.cueSerial) : MuteEntered s' t k := by
  obtain ⟨h1, h2, h3, h4, h5, h6, h7, h8, h9⟩ := h
  refine ⟨h1, h2, h3, h4.trans ho.symm, h5.trans hs.symm, by rw [hm]; exact h6, fun e => h7 (hn ▸ e), ?_, ?_⟩
  · cases s
    cases s'
    dsimp only at *
    subst_vars
    exact h8
  · cases s
    cases s'
    dsimp only at *
    subst_vars
    exact h9

/-! ### Cues -/

/-- No cue map entry holds a number (R114). -/
theorem sceneOf_none {cfg : Configuration} {number : Nat} (h : ∀ i : Fin 64, (cfg.cueMap[i.val]).cue ≠ number) :
    sceneOf cfg number = none := by
  unfold sceneOf
  rw [Option.map_eq_none_iff, List.find?_eq_none]
  intro i _
  simp [h i]

/-- The first cue map entry that holds a number other than STOP names the scene (R114). -/
theorem sceneOf_first {cfg : Configuration} {number : Nat} (hn : number ≠ 255) (i : Fin 64)
    (hi : (cfg.cueMap[i.val]).cue = number) (hj : ∀ j : Fin 64, j < i → (cfg.cueMap[j.val]).cue ≠ number) :
    sceneOf cfg number = some cfg.scenes[((cfg.cueMap[i.val]).scene).val] := by
  unfold sceneOf
  have h : (List.finRange 64).find? (fun n => decide ((cfg.cueMap[n.val]).cue = number) &&
      decide ((cfg.cueMap[n.val]).cue ≠ stopCue)) = some i := by
    rw [List.find?_eq_some_iff_getElem]
    refine ⟨by simp [hi, stopCue, hn], i.val, by simp, by simp, fun j hlt => ?_⟩
    have := hj ⟨j, by omega⟩ (hlt)
    simp [this]
  have h' := congrArg (Option.map fun n : Fin 64 => cfg.scenes[((cfg.cueMap[n.val]).scene).val]) h
  exact h'

/-- A take of a scene, channel by channel (R113, R121). -/
theorem takeScene_channel (s : State) (sc : Scene) (fade : Nat) (n : Fin 8) :
    ChannelTaken s (s.takeScene sc fade) sc fade n := by
  refine ⟨fun h => ?_, fun level h => ⟨?_, ?_, ?_⟩⟩
  · simp [State.takeScene, h]
  · simp [State.takeScene, h, Fade.begin]
  · simp [State.takeScene, h, Dimmer.takeStrobe]
  · simp only [State.takeScene, State.setGens_gens, mapAt_getElem, Fin.getElem_fin, h, Dimmer.takeStrobe]
    split <;> simp [Strobe.begin, Strobe.finish]

/-- A take with no scene (R121). -/
theorem takeCue_of_none {s : State} {c : CueRecord} (h : sceneOf s.cfg c.number = none) :
    s.takeCue c = (s.takePhase c).recordTake c := by
  have e : sceneOf (s.takePhase c).cfg c.number = none := h
  unfold State.takeCue
  dsimp only
  rw [e]

/-- A take with a scene (R121). -/
theorem takeCue_of_some {s : State} {c : CueRecord} {sc : Scene} (h : sceneOf s.cfg c.number = some sc) :
    s.takeCue c = ((s.takePhase c).takeScene sc c.fade).recordTake c := by
  have e : sceneOf (s.takePhase c).cfg c.number = some sc := h
  unfold State.takeCue
  dsimp only
  rw [e]

/-- Taking a cue other than STOP (R121). -/
theorem takeCue_taken (s : State) (c : CueRecord) (hn : c.number ≠ 255) : CueTaken s (s.takeCue c) c := by
  rcases ho : sceneOf s.cfg c.number with _ | sc
  · rw [takeCue_of_none ho]
    refine ⟨rfl, rfl, rfl, rfl, rfl, rfl, rfl, fun h => absurd h hn, fun _ => ⟨rfl, fun _ => ⟨rfl, rfl⟩, fun i hi hj => ?_⟩⟩
    rw [sceneOf_first hn i hi hj] at ho
    cases ho
  · rw [takeCue_of_some ho]
    refine ⟨rfl, rfl, rfl, rfl, rfl, rfl, rfl, fun h => absurd h hn, fun _ => ⟨rfl, fun h => ?_, fun i hi hj n => ?_⟩⟩
    · rw [sceneOf_none h] at ho
      cases ho
    · rw [sceneOf_first hn i hi hj] at ho
      cases ho
      exact takeScene_channel (s.takePhase c) s.cfg.scenes[((s.cfg.cueMap[i.val]).scene).val] c.fade n

/-- Taking STOP (R122). -/
theorem takeStop_taken (s : State) (c : CueRecord) (hn : c.number = 255) : CueTaken s (s.takeStop c) c := by
  refine ⟨rfl, rfl, rfl, rfl, rfl, rfl, rfl, fun _ => ⟨rfl, rfl, fun n => ?_⟩, fun h => absurd hn h⟩
  simp [State.takeStop, State.recordTake, State.takePhase, Fade.freeze]

/-- A cue taken at once by its number or its wait (R119, R123). -/
theorem actCue_taken (s : State) (c : Cue) (h : c.number = 255 ∨ c.wait = 0) : CueTaken s (s.actCue c) (recordOfCue c) := by
  unfold State.actCue stopCue
  by_cases hn : c.number = 255
  · rw [if_pos hn]
    exact takeStop_taken s (recordOfCue c) hn
  · rw [if_neg hn, if_pos (h.resolve_left hn)]
    exact takeCue_taken s (recordOfCue c) hn

/-- What a take does rests on the configuration, the lighting, the generators and the node state alone. -/
theorem CueTaken.congr {s s' t t' : State} {c : CueRecord} (h : CueTaken s t c) (hc : s'.cfg = s.cfg)
    (hl : s'.light = s.light) (hg : s'.gens = s.gens) (hn : s'.node = s.node) (tl : t'.light = t.light)
    (tg : t'.gens = t.gens) : CueTaken s' t' c := by
  cases s
  cases s'
  cases t
  cases t'
  dsimp only at *
  subst_vars
  exact h

/-- Where a pending cue enters the list (R120). -/
theorem insertPending_split (x : PendingCue) (l : List PendingCue) :
    ∃ xs ys, l = xs ++ ys ∧ insertPending x l = xs ++ x :: ys ∧ (∀ p ∈ xs, p.remaining ≤ x.remaining) ∧
      ∀ p, ys.head? = some p → x.remaining < p.remaining := by
  induction l with
  | nil => exact ⟨[], [], rfl, rfl, by simp, by simp⟩
  | cons p rest ih =>
    unfold insertPending
    by_cases h : p.remaining ≤ x.remaining
    · obtain ⟨xs, ys, h1, h2, h3, h4⟩ := ih
      refine ⟨p :: xs, ys, by simp [h1], by simp [h, h2], ?_, h4⟩
      intro q hq
      rcases List.mem_cons.mp hq with rfl | hq
      · exact h
      · exact h3 q hq
    · refine ⟨[], p :: rest, rfl, by simp [h], by simp, ?_⟩
      intro q hq
      obtain rfl : p = q := by simpa using hq
      omega

/-- Cues other than STOP taken one after another (R120, R121). -/
theorem takeCues_inOrder (l : List CueRecord) (h : ∀ c ∈ l, c.number ≠ 255) (s : State) :
    TakenInOrder l s (l.foldl (fun t c => t.takeCue c) s) := by
  induction l generalizing s with
  | nil => rfl
  | cons c rest ih =>
    refine ⟨s.takeCue c, takeCue_taken s c (h c (by simp)), ?_, ih (fun c hc => h c (by simp [hc])) _⟩
    apply State.eq_of_fields
    simp

/-- The pending list holds a cue of this origin and serial (R118, R120). -/
theorem pendingHolds_iff (l : List PendingCue) (c : Cue) :
    pendingHolds l c = true ↔ ∃ p ∈ l, p.origin = c.origin ∧ p.serial = c.serial := by
  simp [pendingHolds]

/-- A cue with a wait offered to the pending list, and the cause of a full one (R120). -/
theorem offerPending_offered (s : State) (c : Cue) : PendingOffered s (s.offerPending c) c ∧
    CausesAfter s (s.offerPending c) 4 (if 4 ≤ s.light.pendingCues.length then 1 else 0) ∧
    (s.offerPending c).node = { s.node with causes := (s.offerPending c).node.causes } := by
  by_cases hl : 4 ≤ s.light.pendingCues.length
  · have e : s.offerPending c = s.raise .cueDropped := by simp [State.offerPending, hl]
    rw [e, if_pos hl]
    exact ⟨⟨fun _ => rfl, fun g => absurd hl (by omega)⟩, raise_after s .cueDropped, rfl⟩
  · rw [if_neg hl]
    by_cases hd : pendingHolds s.light.pendingCues c = true
    · have e : s.offerPending c = s := by simp [State.offerPending, hl, hd]
      rw [e]
      refine ⟨⟨fun _ => rfl, fun _ => ⟨fun _ => rfl, fun g => ?_⟩⟩, CausesAfter.none _ _ _ rfl, rfl⟩
      obtain ⟨p, hp, h1, h2⟩ := (pendingHolds_iff _ _).mp hd
      exact ((g p hp).elim (fun e => e h1) fun e => e h2).elim
    · obtain ⟨xs, ys, h1, h2, h3, h4⟩ := insertPending_split (PendingCue.mk c.origin c.serial c.number c.phase c.fade (c.wait * 5))
        s.light.pendingCues
      have e : s.offerPending c = s.setLight { s.light with
          pendingCues := xs ++ PendingCue.mk c.origin c.serial c.number c.phase c.fade (c.wait * 5) :: ys } := by
        simp [State.offerPending, hd, hl, ← h2]
      rw [e]
      exact ⟨⟨fun g => absurd g hl, fun _ => ⟨fun g => absurd ((pendingHolds_iff _ _).mpr g) hd,
        fun _ => ⟨xs, ys, h1, rfl, h3, h4⟩⟩⟩, CausesAfter.none _ _ _ rfl, rfl⟩

/-- A CUE frame offered to the transmit queue (R46). -/
theorem offer_cue (s : State) (c : Cue) :
    s.offer (.cue c) = (s.setLine { s.line with queue := (s.offer (.cue c)).line.queue }).setNode
      { s.node with causes := (s.offer (.cue c)).node.causes } ∧
    (mayTransmitIn s.node.state = true → s.line.cuesHeld < 2 →
      (s.offer (.cue c)).line.queue =
        { s.line.queue with cuePlaces := s.line.queue.cuePlaces ++ [{ frame := .cue c, attempt := 0 }] }) ∧
    (mayTransmitIn s.node.state = false ∨ 2 ≤ s.line.cuesHeld → (s.offer (.cue c)).line.queue = s.line.queue) ∧
    CausesAfter s (s.offer (.cue c)) 4 (if mayTransmitIn s.node.state = true ∧ 2 ≤ s.line.cuesHeld then 1 else 0) := by
  by_cases hm : mayTransmitIn s.node.state = true
  · by_cases hc : s.line.cuesHeld < 2
    · have e : s.offer (.cue c) = s.setLine { s.line with queue := s.line.queue.enter (.cue c) } := by
        simp [State.offer, hm, LineInterface.accepts, hc]
      rw [e]
      refine ⟨rfl, fun _ _ => rfl, fun g => by rcases g with g | g <;> [simp [hm] at g; omega], ?_⟩
      rw [if_neg fun g => by omega]
      exact CausesAfter.none _ _ _ rfl
    · have e : s.offer (.cue c) = s.raise .cueDropped := by
        simp [State.offer, hm, LineInterface.accepts, hc, State.raiseIf, TxFrame.isCue]
      rw [e]
      refine ⟨rfl, fun _ g => absurd g hc, fun _ => rfl, ?_⟩
      rw [if_pos ⟨hm, by omega⟩]
      exact raise_after s .cueDropped
  · have e : s.offer (.cue c) = s := by simp [State.offer, hm]
    rw [e]
    refine ⟨rfl, fun g => absurd g hm, fun _ => rfl, ?_⟩
    rw [if_neg fun g => hm g.1]
    exact CausesAfter.none _ _ _ rfl

/-- What a pending offer does rests on the lighting alone. -/
theorem PendingOffered.congr {s s' t t' : State} {c : Cue} (h : PendingOffered s t c) (hs : s'.light = s.light)
    (ht : t'.light = t.light) : PendingOffered s' t' c := by
  unfold PendingOffered at *
  rw [hs, ht]
  exact h

/-- A cue acting by its number and its wait: what it does to the causes (R120, R123). -/
theorem actCue_causes (s : State) (c : Cue) :
    CausesAfter s (s.actCue c) 4
      (if c.number ≠ 255 ∧ 0 < c.wait ∧ 4 ≤ s.light.pendingCues.length then 1 else 0) ∧
    (s.actCue c).node = { s.node with causes := (s.actCue c).node.causes } := by
  by_cases hn : c.number = 255
  · have e : s.actCue c = s.takeStop (recordOfCue c) := by simp [State.actCue, stopCue, hn]
    rw [e, if_neg fun g => g.1 hn]
    exact ⟨CausesAfter.none _ _ _ (by simp), by simp⟩
  · by_cases hw : c.wait = 0
    · have e : s.actCue c = s.takeCue (recordOfCue c) := by simp [State.actCue, stopCue, hn, hw]
      rw [e, if_neg fun g => by omega]
      exact ⟨CausesAfter.none _ _ _ (by simp), by simp⟩
    · have e : s.actCue c = s.offerPending c := by simp [State.actCue, stopCue, hn, hw]
      obtain ⟨-, h2, h3⟩ := offerPending_offered s c
      rw [e]
      refine ⟨?_, h3⟩
      have h : 0 < c.wait := by omega
      simpa [hn, h] using h2

/-- A cue input originating its cue (R46, R120 to R123). -/
theorem originate_originated (s : State) (n : Fin 2) : CueOriginated s (s.originate n) (inputCue s n) := by
  obtain ⟨c, hc⟩ : ∃ c, inputCue s n = c := ⟨_, rfl⟩
  obtain ⟨u, hu⟩ : ∃ u, s.setLine { s.line with cueSerial := c.serial } = u := ⟨_, rfl⟩
  have e : s.originate n = (u.actCue c).offer (.cue c) := by rw [← hu, ← hc]; rfl
  have hl : u.light = s.light := by rw [← hu]; rfl
  have hg : u.gens = s.gens := by rw [← hu]; rfl
  have hcfg : u.cfg = s.cfg := by rw [← hu]; rfl
  have hnode : u.node = s.node := by rw [← hu]; rfl
  have hline : u.line = { s.line with cueSerial := c.serial } := by rw [← hu]; rfl
  have hheld : u.line.cuesHeld = s.line.cuesHeld := by rw [hline]; rfl
  obtain ⟨a1, a2⟩ := actCue_causes u c
  obtain ⟨o1, o2, o3, o4⟩ := offer_cue (u.actCue c) c
  have hst : (u.actCue c).node.state = s.node.state := by simp [hnode]
  have hln : (u.actCue c).line = u.line := by simp
  rw [hc, e]
  refine ⟨?_, fun h => ?_, fun hn hw => ⟨?_, ?_⟩, fun h1 h2 => ?_, fun h => ?_, ?_⟩
  · apply State.eq_of_fields
    rw [o1, a2]
    simp [← hu]
  · exact CueTaken.congr (actCue_taken u c h) hcfg.symm hl.symm hg.symm hnode.symm (by simp) (by simp)
  · have : u.actCue c = u.offerPending c := by simp [State.actCue, stopCue, hn, Nat.pos_iff_ne_zero.mp hw]
    simp [this, hg]
  · have : u.actCue c = u.offerPending c := by simp [State.actCue, stopCue, hn, Nat.pos_iff_ne_zero.mp hw]
    exact (offerPending_offered u c).1.congr hl.symm (by simp [this])
  · rw [o2 (by rw [hst]; exact h1) (by rw [hln, hheld]; exact h2), hln, hline]
  · rw [o3 (by rw [hst, hln, hheld]; exact h), hln, hline]
  · rw [hst, hln, hheld] at o4
    rw [hl] at a1
    exact CausesAfter.congr (a1.trans o4) (by rw [hnode]) rfl

/-! ### Peers and pins -/

/-- In a legal table an address has one entry (R23). -/
theorem entry_unique {s : State} (h : PeersLegal s) {e e' : PeerEntry} (he : e ∈ s.peers) (he' : e' ∈ s.peers)
    (ha : e.address = e'.address) : e = e' := by
  have hp := h.2.1
  by_contra hne
  rcases List.mem_iff_getElem.mp he with ⟨i, hi, rfl⟩
  rcases List.mem_iff_getElem.mp he' with ⟨j, hj, rfl⟩
  rcases Nat.lt_trichotomy i j with hlt | heq | hgt
  · have := List.pairwise_iff_getElem.mp hp i j hi hj hlt
    omega
  · subst heq
    exact hne rfl
  · have := List.pairwise_iff_getElem.mp hp j i hj hi hgt
    omega

/-- The entry at an address of a legal table (R23). -/
theorem entryAt_of_mem {s : State} (h : PeersLegal s) {e : PeerEntry} (he : e ∈ s.peers) :
    entryAt s.peers e.address = some e := by
  rcases hf : entryAt s.peers e.address with _ | x
  · exact absurd (List.find?_eq_none.mp hf e he) (by simp)
  · rw [entry_unique h (List.mem_of_find?_eq_some hf) he (by simpa using List.find?_some hf)]

/-- The first pin that carries a function (R145). -/
theorem pinOf_first {cfg : Configuration} {f : PinFunction} (p : Fin 24) (h : (cfg.pins[p.val]).function = f)
    (hq : ∀ q : Fin 24, q < p → (cfg.pins[q.val]).function ≠ f) : pinOf cfg f = some p := by
  unfold pinOf
  rw [List.find?_eq_some_iff_getElem]
  refine ⟨by simp [h], p.val, by simp, by simp, fun j hlt => ?_⟩
  have := hq ⟨j, by omega⟩ hlt
  simp [this]

/-- The highest fog state bounds every entry's and the start, and is one of them (R85). -/
theorem highestFog_spec (x : FogLevel) (l : List PeerEntry) :
    fogCode x ≤ fogCode (highestFog x l) ∧ (∀ e ∈ l, fogCode e.fog ≤ fogCode (highestFog x l)) ∧
      (highestFog x l = x ∨ ∃ e ∈ l, e.fog = highestFog x l) := by
  induction l with
  | nil => simp [highestFog]
  | cons e rest ih =>
    obtain ⟨h1, h2, h3⟩ := ih
    have hh : ∀ a b : FogLevel, fogCode a ≤ fogCode (higherFog a b) ∧ fogCode b ≤ fogCode (higherFog a b) ∧
        (higherFog a b = a ∨ higherFog a b = b) := by
      intro a b
      cases a <;> cases b <;> decide
    obtain ⟨g1, g2, g3⟩ := hh e.fog (highestFog x rest)
    refine ⟨h1.trans g2, fun e' he' => ?_, ?_⟩
    · rcases List.mem_cons.mp he' with rfl | he'
      · exact g1
      · exact (h2 e' he').trans g2
    · rcases g3 with g3 | g3
      · exact Or.inr ⟨e, by simp, by simp [highestFog, g3]⟩
      · rcases h3 with h3 | ⟨e', he', h3⟩
        · exact Or.inl (g3.trans h3)
        · exact Or.inr ⟨e', by simp [he'], h3.trans g3.symm⟩

/-- A report of the Peer Table (R31). -/
theorem reportPeers_rederived (s : State) : FogRederived s s.reportPeers := by
  obtain ⟨h1, h2, h3⟩ := highestFog_spec s.fog.own s.peers
  refine ⟨rfl, ?_, h1, h2, h3, rfl, rfl, ?_⟩
  · simp [State.reportPeers, State.rederiveE, State.rederiveFlood, IceLive.flood]
  · show fanOf (highestFog s.fog.own s.peers) = true ↔ 2 ≤ fogCode (highestFog s.fog.own s.peers)
    generalize highestFog s.fog.own s.peers = e
    cases e <;> decide

/-! ### Bits sent -/

/-- Bits read behind a number already read (R171). -/
theorem natOfBitsFrom_eq (acc : Nat) (l : Bits) : natOfBitsFrom acc l = acc * 2 ^ l.length + natOfBits l := by
  induction l generalizing acc with
  | nil => simp [natOfBitsFrom, natOfBits]
  | cons b rest ih =>
    rw [natOfBits, natOfBitsFrom, natOfBitsFrom, ih, ih (2 * 0 + b.toNat), List.length_cons, Nat.pow_succ]
    ring

/-- Two runs of bits read as one (R171). -/
theorem natOfBits_append (a b : Bits) : natOfBits (a ++ b) = natOfBits a * 2 ^ b.length + natOfBits b := by
  have h : ∀ acc, natOfBitsFrom acc (a ++ b) = natOfBitsFrom (natOfBitsFrom acc a) b := by
    induction a with
    | nil => intro acc; rfl
    | cons x rest ih => intro acc; simpa [natOfBitsFrom] using ih _
  rw [natOfBits, h, natOfBitsFrom_eq]
  rfl

/-- A run of n bits spells a number below 2^n (R171). -/
theorem natOfBits_lt (l : Bits) : natOfBits l < 2 ^ l.length := by
  induction l with
  | nil => simp [natOfBits, natOfBitsFrom]
  | cons b rest ih =>
    rw [natOfBits, natOfBitsFrom, natOfBitsFrom_eq, List.length_cons, Nat.pow_succ]
    cases b <;> simp <;> omega

/-- A field read from a window's data as a number is the field of the bits sent (R165, R171). -/
theorem field_sent (pdi : Bits) (start width rest : Nat) (hw : 0 < width) (h : pdi.length = 8 + (start + width + rest)) :
    field (natOfBits (pdi.drop 8)) (width + rest - 1) rest = sentField pdi start width := by
  obtain ⟨d, hd⟩ : ∃ d, pdi.drop 8 = d := ⟨_, rfl⟩
  have hl : d.length = start + width + rest := by rw [← hd, List.length_drop]; omega
  have e : d = d.take start ++ ((d.drop start).take width ++ (d.drop start).drop width) := by simp
  have hlen : ((d.drop start).take width).length = width ∧ ((d.drop start).drop width).length = rest := by
    simp [hl]
    omega
  have h1 := natOfBits_lt ((d.drop start).take width)
  have h2 := natOfBits_lt ((d.drop start).drop width)
  rw [hlen.1] at h1
  rw [hlen.2] at h2
  have hs : sentField pdi start width = natOfBits ((d.drop start).take width) := by
    rw [sentField, ← hd, List.drop_drop]
  have hx : width + rest - 1 + 1 - rest = width := by omega
  rw [hs, hd, field, hx, e, natOfBits_append, natOfBits_append, List.length_append, hlen.1, hlen.2]
  generalize natOfBits ((d.drop start).drop width) = c at *
  rw [← e]
  generalize natOfBits ((d.drop start).take width) = b at *
  rw [Nat.pow_add, show natOfBits (d.take start) * (2 ^ width * 2 ^ rest) + (b * 2 ^ rest + c) =
    2 ^ rest * (natOfBits (d.take start) * 2 ^ width + b) + c by ring, Nat.mul_add_div (by positivity), Nat.div_eq_of_lt h2,
    Nat.add_zero, Nat.mul_add_mod', Nat.mod_eq_of_lt h1]
/-! ### The port -/

/-- The lines and the stage after a transaction on a window, before its end is judged: the whole of what code bits, capture and
shifting do (R162, R164, R165). -/
theorem shifted_window (s : State) (c : Code) (w : Window) (pdi : Bits) :
    (((s.receiveCode (bitsOfNat 8 c.toNat)).captureWindow w).shiftBits pdi).raiseSelect =
      (s.setPort { s.port with
        state := .portIdle
        code := natOfBits (bitsOfNat 8 c.toNat)
        count := pdi.length
        stage := (stageOf s w ++ pdi).drop pdi.length
        snapshot := some (contentsOf s w)
        pdo := List.replicate 8 (some false) ++ ((stageOf s w ++ pdi).take pdi.length).map some
        capturedSet := if storesSet w then some (captureSet s) else s.port.capturedSet }).setFreeCount
          (s.freeCount + (takesReading w).toNat) := by
  have hs : ∀ t : State, stageOf t w ≠ [] := fun t h => by simpa [stageOf, resultBits, bitsOfNat] using congrArg List.length h
  have hc : ∀ p : SetupPort, p.lastResult = s.port.lastResult → p.scenePointer = s.port.scenePointer →
      contentsOf (s.setPort p) w = contentsOf s w ∧ stageOf (s.setPort p) w = stageOf s w := by
    intro p hr hp
    have h : contentsOf (s.setPort p) w = contentsOf s w := by
      cases w <;> (try rfl)
      simp [contentsOf, hp]
    exact ⟨h, by simp [stageOf, h, hr]⟩
  rw [receiveCode_eq]
  generalize hq : ({ s.port with
    state := .code
    code := natOfBits (bitsOfNat 8 c.toNat)
    count := (bitsOfNat 8 c.toNat).length
    pdo := List.replicate (bitsOfNat 8 c.toNat).length (some false) } : SetupPort) = q
  obtain ⟨h1, h2⟩ := hc q (by simp [← hq]) (by simp [← hq])
  simp only [State.captureWindow, State.shiftBits, State.raiseSelect, h1, h2, State.setFreeCount_port, State.setPort_port]
  rw [takeShiftBits _ _ rfl (by simpa [SetupPort.openShift] using hs s)]
  subst hq
  simp [SetupPort.openShift, SetupPort.deselect, bitsOfNat, captureSet]
  rfl

/-- A transaction under an unknown code, whole (R163). -/
theorem passThrough_eq (s : State) (c : Code) (pdi : Bits) :
    s.passThrough c pdi = s.setPort { s.port with
      state := .portIdle
      code := natOfBits (bitsOfNat 8 c.toNat)
      count := pdi.length
      stage := (c.getLsbD 0 :: pdi).drop pdi.length
      pdo := List.replicate 8 (some false) ++ ((c.getLsbD 0 :: pdi).take pdi.length).map some
      lastResult := .unknownCode } := by
  simp only [State.passThrough, State.shiftBits, State.raiseSelect, State.openPass, receiveCode_eq, State.setPort_port,
    State.setResult]
  rw [takeShiftBits _ _ rfl (by simp [SetupPort.openShift])]
  simp [SetupPort.openShift, SetupPort.deselect, bitsOfNat]

/-- A transaction that ends in CODE, whole (R166). -/
theorem endInCode_eq (s : State) (bits : Bits) :
    s.endInCode bits = s.setPort { s.port with
      state := .portIdle
      code := natOfBits bits
      count := bits.length
      pdo := List.replicate bits.length (some false)
      lastResult := .discardedLength } := by
  simp [State.endInCode, State.raiseSelect, State.setResult, receiveCode_eq, SetupPort.deselect]

end Sys2Proof.Machine
end

