-- ==== Sys2Proof/Tests/Slice0.lean ====
section
/-!
SUPPORT. Small tests: an ill-formed command for each check of WellFormed.lean, the worked examples and tables of the manual on one
operation or one step each, and, for each statement of Certificates/Slice0/Obligations.lean that has hypotheses, a concrete
state and operands that meet them.
-/
namespace Sys2Proof.Tests

open Sys2Proof Sys2Proof.Machine

set_option Elab.async false

/-! ### Helper states -/

/-- The next state of an answer. -/
def nextOf : Answer → State
  | .next s => s
  | _ => State.reset

/-- The state as after reset, at address 12 and in a node state. -/
def node12 (x : NodeState) : State :=
  { State.reset with
    cfg := { Configuration.powerOn with node := { NodeConfig.powerOn with address := 12 } }
    node := { NodeControl.powerOn with state := x } }

/-- A FRESH peer entry at an address, with no demands, no cap and no radiant. -/
def peer (a : Nat) : PeerEntry :=
  { address := a, period := 1, lastSequence := 0, age := 0, stale := false, phase := .idle, fog := .clear, flood := false,
    degraded := false, cap := none, radiant := none, offer := 0, offerDoubt := false, demands := [], gapCount := 0,
    lastCueSerial := none, splitCounter := 0 }

/-- The state with channel n bound and reading a value with a quality. -/
def reading (s : State) (n : Fin 12) (k : ChannelKind) (b : Binding) (v : Int) (q : Quality) : State :=
  { s with
    cfg := { s.cfg with channels := setAt s.cfg.channels n { ChannelConfig.powerOn with kind := k, binding := some b } }
    meas := { s.meas with channels := setAt s.meas.channels n { ChannelLive.powerOn with value := v, quality := q } } }

/-- The state receiving a transmission of another station. -/
def hearing (s : State) : State := s.setAccess .receiving

/-- The state with an attempt of a frame at a number under way. -/
def attempting (s : State) (t : TxFrame) (k : Nat) : State :=
  s.setLine { s.line with
    stage := some { queued := { frame := t, attempt := k }, wire := t.toFrame s.cfg.node.address }, access := .sending }

/-- A STATUS content with a sequence. -/
def status (q : Nat) : StatusContent :=
  { sequence := q, phase := .showPhase, fog := .watch, flood := false, degraded := false, first := false, period := 1,
    offer := 0, offerDoubt := false, cap := none, radiant := none, demands := [] }

/-- A cue of an origin and a serial, taken at once. -/
def cue (origin serial number wait : Nat) : Cue :=
  { origin := origin, serial := serial, number := number, phase := none, wait := wait, fade := 10 }

/-- A valid frame of each kind from address a. -/
def statusFrom (a q : Nat) : Frame := (TxFrame.status (status q)).toFrame a

/-! ### Ill-formed commands -/

/-- A NODE write one bit short, as in section 11.10. -/
theorem test_illformed_configurationWrite : wellFormed (.configurationWrite 16#8 (List.replicate 55 false)) = false := by decide +kernel
/-- A known code under UNKNOWN_CODE. -/
theorem test_illformed_unknownCode : wellFormed (.unknownCode 16#8 []) = false := by decide +kernel
/-- A transaction of exact length, and one on a read-only window, under DISCARDED_LENGTH. -/
theorem test_illformed_discardedLength :
    wellFormed (.discardedLength (bitsOfNat 8 16 ++ List.replicate 56 false)) = false ∧
      wellFormed (.discardedLength (bitsOfNat 8 0)) = false := by decide +kernel
/-- Addresses below 1 and above 60. -/
theorem test_illformed_phaseSplit : wellFormed (.phaseSplit 0) = false ∧ wellFormed (.phaseSplit 61) = false := by decide
/-- Addresses below 1 and above 60. -/
theorem test_illformed_entryStale : wellFormed (.entryStale 0) = false ∧ wellFormed (.entryStale 61) = false := by decide
/-- Addresses below 1 and above 60. -/
theorem test_illformed_entryLost : wellFormed (.entryLost 0) = false ∧ wellFormed (.entryLost 61) = false := by decide
/-- A frame of another kind, and one with a wrong check word. -/
theorem test_illformed_statusReceived :
    wellFormed (.statusReceived (TxFrame.recall.toFrame 20)) = false ∧
      wellFormed (.statusReceived { statusFrom 20 3 with check := 0 }) = false := by decide +kernel
/-- A frame of another kind. -/
theorem test_illformed_fogReceived : wellFormed (.fogReceived (statusFrom 20 3)) = false := by decide +kernel
/-- A CUE with the replay mark. -/
theorem test_illformed_cueReceived : wellFormed (.cueReceived ((TxFrame.replay (cue 20 1 5 0)).toFrame 20)) = false := by
  decide +kernel
/-- A CUE without the replay mark. -/
theorem test_illformed_replayReceived : wellFormed (.replayReceived ((TxFrame.cue (cue 20 1 5 0)).toFrame 20)) = false := by
  decide +kernel
/-- A RECALL from address 61. -/
theorem test_illformed_recallReceived : wellFormed (.recallReceived (TxFrame.recall.toFrame 61)) = false := by decide +kernel
/-- A valid frame, and receptions cut short inside the issue window and after the longest frame. -/
theorem test_illformed_invalidFrame :
    wellFormed (.invalidFrame (.complete (statusFrom 20 3))) = false ∧ wellFormed (.invalidFrame (.cutShort 17)) = false ∧
      wellFormed (.invalidFrame (.cutShort 304)) = false := by decide +kernel
/-- Receptions cut short outside the issue window. -/
theorem test_illformed_fragment :
    wellFormed (.fragment (.cutShort 0)) = false ∧ wellFormed (.fragment (.cutShort 18)) = false := by decide
/-- A frame whose END marker stands on no element. -/
theorem test_illformed_validFrameOwnAddress :
    wellFormed (.validFrameOwnAddress
      { statusFrom 12 3 with elements := (statusFrom 12 3).elements.map fun e => { e with endMark := false } }) = false := by
  decide +kernel
/-- A configuration window and the causes snapshot. -/
theorem test_illformed_readOnlyWindowTransaction :
    wellFormed (.readOnlyWindowTransaction 16#8 [] FieldPins.powerOn.board) = false ∧
      wellFormed (.readOnlyWindowTransaction 198#8 [] FieldPins.powerOn.board) = false := by decide +kernel

/-! ### The manual's examples: measurement -/

/-- A channel configuration of a kind with full scale 500. -/
def kindConfig (k : ChannelKind) : ChannelConfig := { ChannelConfig.powerOn with kind := k, fullScale := 500 }

/-- Table 1-11, the TEMP column. -/
theorem test_temp_conversions :
    [0, 1257, 2048, 3500, 4095].map (valueOf (kindConfig .temp)) = [-500, -40, 250, 782, 1000] := by decide
/-- Table 1-11, the HUMID, FLOW and BEAM columns. -/
theorem test_other_conversions :
    [0, 1257, 2048, 3500, 4095].map (valueOf (kindConfig .humid)) = [0, 306, 500, 854, 1000] ∧
      [0, 1257, 2048, 3500, 4095].map (valueOf (kindConfig .flow)) = [0, 153, 250, 427, 500] ∧
      [0, 1257, 2048, 3500, 4095].map (valueOf (kindConfig .beam)) = [0, 306, 500, 854, 1000] := by decide
/-- The zero measurement of the worked sequence of chapter 1: +6. -/
theorem test_zero_correction : zeroCorrectionOf [2041, 2043, 2040, 2042, 2044, 2041, 2043, 2042] = 6 := by decide
/-- The ice surface channel of chapter 1's worked sequence. -/
def iceChannel : ChannelConfig := { ChannelConfig.powerOn with kind := .temp, trim := -10, autoZero := true, stepLimit := 20 }
/-- The channel after a run of raw counts. -/
def afterCounts (c : ChannelLive) (raws : List Counts) : ChannelLive := raws.foldl (fun c r => c.convert iceChannel r) c
/-- The channel right after its zero measurement. -/
def iceLive : ChannelLive := { ChannelLive.powerOn with zeroCorrection := 6, zeroState := .done }
/-- Table 1-13, scan 4. -/
theorem test_ring_fills : afterCounts iceLive [1261, 1263, 1262, 1260] =
    { iceLive with lastRaw := 1260, ring := [1257, 1259, 1258, 1256], value := -40, quality := .good } := by decide +kernel
/-- Table 1-13, scan 5. -/
theorem test_step_hold : afterCounts iceLive [1261, 1263, 1262, 1260, 1600] =
    { iceLive with lastRaw := 1600, ring := [1259, 1258, 1256, 1596], value := -9, stepHold := 10 } := by decide +kernel
/-- Table 1-14, scans 8 and 16. -/
theorem test_failure_and_recovery :
    afterCounts iceLive [1261, 1263, 1262, 1260, 1600, 4094, 4094, 4094] =
      { iceLive with lastRaw := 4094, ring := [1259, 1258, 1256, 1596], value := -9, quality := .failed, outRun := 3 } ∧
    afterCounts iceLive ([1261, 1263, 1262, 1260, 1600, 4094, 4094, 4094] ++ List.replicate 8 1262) =
      { iceLive with lastRaw := 1262, ring := [1258], value := -40 } := by decide +kernel

/-! ### The manual's examples: frames and slots -/

/-- The STATUS of section 12.4. -/
def statusOf12 : Frame :=
  (TxFrame.status { status 8 with
    first := true, demands := [{ cls := .stand, loop := 1, amount := 1200, doubt := false }] }).toFrame 12
/-- Section 12.4: the header and the elements. -/
theorem test_status_bits :
    natOfBits statusOf12.headerBits = 0x0C83 ∧ statusOf12.elements = [⟨0x6909#16, false, false⟩, ⟨0#16, false, false⟩,
      ⟨0x94B0#16, true, false⟩] ∧ statusOf12.lineBits.length = 88 := by decide +kernel
/-- The check word of R38 over those 70 bits, worked out outside the model from its steps. -/
theorem test_status_check : statusOf12.check = 25995#16 := by decide +kernel
/-- Table 3-3. -/
theorem test_slots :
    (List.range 6).map (slotOf true 12) = [0, 0, 1, 1, 0, 0] ∧ (List.range 6).map (slotOf true 20) = [0, 0, 1, 0, 1, 0] ∧
      (List.range 6).map (slotOf false 12) = [6, 3, 7, 2, 8, 5] ∧
      (List.range 6).map (slotOf false 20) = [6, 4, 7, 5, 8, 2] := by decide

/-! ### The manual's examples: ice, fog and heat -/

/-- Node 4 of section 4.10. -/
def rigIce : IceConfig := { IceConfig.powerOn with ceilShow := -50, sensitivity := 20, floor := 400 }
/-- Node 4 of section 4.10, its settled radiant as given. -/
def rigLive (settled : Int) : IceLive := { IceLive.powerOn with settled := some settled }
/-- Table 4-5: predicted margin, cap and settled radiant after evaluations 1 and 4. -/
theorem test_rig_comes_up :
    [600, 637, 673, 708].map (fun x =>
      let i := (rigLive x).evaluate rigIce { surface := ⟨-75, .good⟩, phase := .showPhase, total := 1800 }
      (i.predicted, i.cap, i.settled)) =
      [(1, 430, some 637), (2, 460, some 673), (3, 490, some 708), (4, 520, some 742)] := by decide +kernel
/-- Node 4 of section 4.9. -/
def floodIce : IceConfig := { IceConfig.powerOn with ceilInterval := -25, floodRise := 30 }
/-- Table 4-4, t = 108, 109 and 111: the flood timer, the margin, the WARM run and the state. -/
theorem test_resurfacing :
    let run := fun (vs : List Int) => vs.foldl (fun (i : IceLive) v =>
      i.evaluate floodIce { surface := ⟨v, .good⟩, phase := .interval, total := 0 })
        { IceLive.powerOn with ring := List.replicate 10 (-45) }
    let show4 := fun (i : IceLive) => (i.floodTimer, i.margin, i.warmRun, i.state)
    show4 (run [-45, -40, -32, -25, -18]) = (0, -7, 1, .soft) ∧ show4 (run [-45, -40, -32, -25, -18, -14]) = (300, -11, 0, .soft) ∧
      show4 (run [-45, -40, -32, -25, -18, -14, -15, -17]) = (299, -8, 0, .soft) := by decide +kernel
/-- Table 5-2. -/
theorem test_dew_points :
    [dewPointOf 120 1000, dewPointOf 120 780, dewPointOf 120 690, dewPointOf 120 350, dewPointOf 150 623] =
      [120, 76, 58, 20, 75] := by decide
/-- Table 5-6, evaluations a to f: the margin state after each. -/
theorem test_margin_states :
    let step := fun (f : FogLive) (x : Int × Int × Bool) =>
      ({ f with floodInView := x.2.2 } : FogLive).marginSteps FogConfig.powerOn ⟨⟨120, .good⟩, ⟨x.1, .good⟩, ⟨x.2.1, .good⟩⟩
    let a := step FogLive.powerOn (780, 110, false)
    let b := step a (800, 110, true)
    let c := step b (830, 108, true)
    let d := step c (790, 105, false)
    let e := step d (700, 105, false)
    let f := step e (690, 105, false)
    [a, b, c, d, e, f].map (fun x => (x.effective, x.marginState)) =
      [(34, .watch), (15, .act), (7, .act), (27, .watch), (45, .watch), (47, .clear)] := by decide +kernel
/-- A demand record. -/
def demand (c : HeatClass) (x : Nat) : Demand := { cls := c, loop := 0, amount := x, doubt := false }
/-- The records of Table 6-3. -/
def nightRecords : List Demand :=
  [demand .stand 1200, demand .heave 200, demand .dry 900, demand .stand 1500, demand .melt 400]
/-- Table 6-4. -/
theorem test_design_night : nightRecords.map (grantOf 3000 nightRecords) = [844, 200, 900, 1055, 0] := by decide
/-- Table 6-5. -/
theorem test_doubtful_source :
    (nightRecords ++ [demand .melt 300]).map (grantOf 1500 (nightRecords ++ [demand .melt 300])) = [177, 200, 900, 222, 0, 0] := by
  decide
/-- Table 6-6 and the source of section 6.9. -/
theorem test_limits :
    [demand .heave 200, demand .heave 150, demand .dry 900].map
        (grantOf 0 [demand .heave 200, demand .heave 150, demand .dry 900]) = [0, 0, 0] ∧
      [demand .heave 300, demand .stand 500].map (grantOf 1000 [demand .heave 300, demand .stand 500]) = [300, 500] ∧
      rawOfferOf 200 (-15) 4180 = 0 ∧ rawOfferOf 200 80 3800 = 6080 ∧ offerOf 6080 900 = 5472 ∧ offerOf 6080 1000 = 6000 ∧
      4000 * 191999 / 192000 = 3999 := by decide
/-- Node 15 loop 0 of section 6.10. -/
def standLoop : LoopConfig :=
  { LoopConfig.powerOn 0 with cls := some .stand, design := 2500, setShow := 210, fallback := 800, threshold := 300, hold := 120 }
/-- Table 6-7: computed, held, at the fallback under curtails of 1000 and 600, and computed again. -/
theorem test_hold_and_fallback :
    let l := LoopLive.powerOn.computeDemand standLoop .stand .showPhase 1000 ⟨180, .good⟩
    let h := l.failDemand standLoop .stand 1000 500 ⟨180, .failed⟩
    let f := ({ h with failureTimer := some 59500 } : LoopLive).failDemand standLoop .stand 1000 500 ⟨180, .failed⟩
    [l, h, f, f.failDemand standLoop .stand 600 500 ⟨180, .failed⟩, f.computeDemand standLoop .stand .showPhase 600 ⟨175, .doubt⟩].map
        (fun x => (x.demand, x.kind, x.failureTimer)) =
      [(1500, .computed, none), (1500, .held, some 0), (800, .fallback, some 60000), (480, .fallback, some 60000),
        (1050, .computedDoubt, none)] := by decide +kernel
/-- Table 6-8: rows 410, 411, 412, 531, 600 and 640. -/
theorem test_backup_stage :
    let l := { LoopLive.powerOn with demand := 1200 }
    let judge := fun (l : LoopLive) g => ({ l with grant := g } : LoopLive).judgeBackup standLoop
    [judge l 1000, judge l 844, judge (judge l 844) 844, judge { l with holdCount := some 119 } 844,
        judge { l with backup := true } 1000, judge { l with backup := true } 1100].map (fun x => (x.backup, x.holdCount)) =
      [(false, none), (false, some 0), (false, some 1), (true, none), (true, none), (false, none)] := by decide +kernel

/-! ### The manual's examples: lighting, generators and pins -/

/-- Table 7-3: channel 2 at 20, 400, 900 and 1000 ms, each before the step. -/
theorem test_fade_under_cap :
    let f := fun e => { Fade.powerOn with state := .fading, start := 200, target := 900, step := e, length := 50 }
    [((f 0).stepped 1000).output, ((f 19).stepped 920).output, ((f 44).stepped 820).output, ((f 49).stepped 800).output] =
        [214, 480, 820, 800] ∧ ((f 44).stepped 820).level = 830 ∧ ((f 49).stepped 800).state = .held := by decide +kernel
/-- Section 7.11: the cap falls by 20, and the twenty-ninth step by the last 10. -/
theorem test_slew : slew 1000 430 = 980 ∧ slew 440 430 = 430 ∧ slew 430 1000 = 435 := by decide
/-- Table 7-2: cue 31/7 with 100 enters ahead of cue 30/42 with 125. -/
theorem test_pending_order :
    insertPending ⟨31, 7, 20, none, 10, 100⟩ [⟨30, 42, 12, some .showPhase, 20, 125⟩] =
      [⟨31, 7, 20, none, 10, 100⟩, ⟨30, 42, 12, some .showPhase, 20, 125⟩] := by decide
/-- VG1 of section 8.6 after 0.3 s. -/
def vg1 : Generator := { Generator.powerOn with running := true, slotA := 400, output := true }
/-- Table 8-5: at 2.0 s after the writes and the count, and at 2.3 s. -/
theorem test_valve_period :
    let g := ((((vg1.write 422).write 430).reachLevel.write 440).write 450)
    g = { vg1 with slotB := 450, written := true, count := 400, output := false } ∧
      g.periodStart = { vg1 with slotB := 450, active := .b } := by decide
/-- Section 8.4: 2 ms after a period start a valve generator's count is 1, and 2 µs after one a dimmer generator's. -/
theorem test_count_times :
    ((List.range 1000).foldl (fun g _ => g.elapse valveCountTime) vg1).count = 1 ∧ (vg1.elapse 1).count = 1 ∧
      (({ vg1 with count := 399 } : Generator).elapse 1).count = 399 := by decide +kernel
/-- Table 8-6: the fifth expiry ends the on-time of 5. -/
theorem test_strobe :
    (Strobe.begin 5 15).expire.counter = 4 ∧
      (Strobe.begin 5 15).expire.expire.expire.expire.expire =
        { active := true, phase := .offTime, onWidth := 5, offWidth := 15, counter := 15 } := by decide
/-- Cue input 0 after a run of logical levels. -/
def sampled (levels : List Bool) : CueInput := levels.foldl CueInput.sample { CueInput.stopped with sampling := true }
/-- Table 9-5: armed at sample 20, bouncing at 101 to 103, and accepted at 110. -/
theorem test_cue_input :
    (sampled (List.replicate 19 false)).armed = false ∧
      (sampled (List.replicate 20 false)).debounced = some false ∧
      (sampled (List.replicate 20 false ++ [true, false] ++ List.replicate 7 true)).changeRun = 7 ∧
      (sampled (List.replicate 20 false ++ [true, false] ++ List.replicate 8 true)).debounced = some true := by decide +kernel

/-! ### The manual's examples: node and port -/

/-- Table 2-6, expiry 3: the split counter of node 20 passes from 2 to 3 and PHASE_SPLIT is raised once. -/
theorem test_phase_split :
    let s := { node12 .run with peers := [{ peer 20 with phase := .night, splitCounter := 2 }] }
    let t := nextOf (exec .statusPeriodExpiry { s with light := { s.light with phase := .interval } })
    t.peers.map (fun e => e.splitCounter) = [3] ∧ t.node.causes[11] = ⟨true, 1⟩ := by decide +kernel
/-- Table 10-5, steps 2 and 5: the repeated binding at channel 5, and the clash. -/
theorem test_first_start :
    let s := reading (reading (node12 .unset) 0 .temp .bowlAirT 0 .doubt) 5 .temp .bowlAirT 0 .doubt
    startChecks s.cfg = some ⟨.bindingRepeated, 5⟩ ∧
      (nextOf (exec (.statusReceived (statusFrom 12 0)) (hearing (node12 .listen)))).node.state = .mute .clash := by
  decide +kernel
/-- Node 12 of section 11.9 before step 1. -/
def causesOf12 : State := (((node12 .run).raise .sensorFailed).raiseTimes .backupOn 3)
/-- Table 11-3: SNAP 6, another BACKUP_ON, ACK and ACK again. -/
theorem test_acknowledge :
    let s1 := nextOf (exec (.causesSnapshot (List.replicate 120 false)) causesOf12)
    let s3 := nextOf (exec .ack (s1.raise .backupOn))
    let s4 := nextOf (exec .ack s3)
    s1.port.lastResult = .captured ∧ s3.node.causes[6] = ⟨false, 1⟩ ∧ s3.node.causes[10] = ⟨true, 4⟩ ∧
      s3.port.capturedSet = none ∧ s3.port.lastResult = .applied ∧ s4.node = s3.node ∧ s4.port.lastResult = .noCapture := by
  decide +kernel
/-- R34: the second position of a table of one entry, and the position of class 14 index 15, show address 0. -/
theorem test_empty_positions :
    let s := { node12 .run with peers := [peer 20] }
    ((peerAt s 0).address, (peerAt s 1).address, (peerAt s 31).address) = (20, 0, 0) := by decide
/-- R120: an originated cue of the origin and the serial of a waiting one does not enter the list. -/
theorem test_no_duplicate_pending :
    let s := node12 .run
    let t := (s.offerPending (cue 12 1 5 3)).offerPending (cue 12 1 5 3)
    t.light.pendingCues.length = 1 ∧ t.node = s.node := by decide
/-- R120: a full list refuses even the cue of the origin and the serial of a waiting one, with CUE_DROPPED. -/
theorem test_full_list_refuses :
    let s := [1, 2, 3, 4].foldl (fun (s : State) k => s.offerPending (cue 12 k 5 3)) (node12 .run)
    let t := s.offerPending (cue 12 1 5 3)
    s.node.causes[4] = ⟨false, 0⟩ ∧ t.light = s.light ∧ t.node.causes[4] = ⟨true, 1⟩ := by decide +kernel
/-- R162, R163, R165: PDO is low through the code; under an unknown code it then shows the last code bit and the PDI bits behind it, and
the last PDI bit is left in the stage. -/
theorem test_pass_stage :
    let p := (nextOf (exec (.unknownCode 17#8 [false, true]) (node12 .run))).port
    p.pdo = List.replicate 8 (some false) ++ [some true, some false] ∧ p.stage = [true] ∧ p.pdoLevel = none := by decide +kernel
/-- The NODE write of section 11.10: 75 is clamped to 60. -/
def nodeWrite (address : Nat) : Bits :=
  List.replicate 8 false ++ packFields [(8, address), (4, 1), (4, 0), (16, 4095), (16, 0)]
/-- Section 11.10: written in UNSET, refused in RUN, and discarded one bit early. -/
theorem test_clamped_write :
    (nextOf (exec (.configurationWrite 16#8 (nodeWrite 75)) (node12 .unset))).cfg.node.address = 60 ∧
      (nextOf (exec (.configurationWrite 16#8 (nodeWrite 75)) (node12 .unset))).port.lastResult = .clamped ∧
      (nextOf (exec (.configurationWrite 16#8 (nodeWrite 75)) (node12 .run))).port.lastResult = .refusedState ∧
      (nextOf (exec (.discardedLength (bitsOfNat 8 16 ++ (nodeWrite 75).take 55)) (node12 .unset))).port.lastResult =
        .discardedLength := by decide +kernel

/-! ### Witnesses: the whole block -/

/-- A Peer Table legal by a check that runs. -/
def peersCheck (s : State) : Bool :=
  decide (s.peers.length ≤ 31) && decide (s.peers.Pairwise fun a b => a.address < b.address) &&
    (s.peers.all fun e => decide (1 ≤ e.address ∧ e.address ≤ 60 ∧ e.address ≠ s.cfg.node.address) &&
      decide (e.period ≤ 7 ∧ e.lastSequence ≤ 15 ∧ e.age ≤ 65535 ∧ e.cap.getD 0 ≤ 1000 ∧ e.radiant.getD 0 ≤ 4000 ∧
        e.offer ≤ 6000 ∧ e.demands.length ≤ 4) && (e.demands.all fun d => decide (d.amount ≤ 4000)) &&
        decide (e.gapCount ≤ 255 ∧ e.lastCueSerial.getD 0 ≤ 255 ∧ e.splitCounter ≤ 3)) &&
    (s.operating || s.peers.isEmpty)

/-- The check says the table is legal. -/
theorem peersLegal_of_check {s : State} (h : peersCheck s = true) : PeersLegal s := by
  simp only [peersCheck, Bool.and_eq_true, Bool.or_eq_true, decide_eq_true_eq, List.all_eq_true, List.isEmpty_iff] at h
  obtain ⟨⟨⟨h1, h2⟩, h3⟩, h4⟩ := h
  refine ⟨h1, h2, fun e he => ?_, fun hs => h4.resolve_left (by simp [hs])⟩
  obtain ⟨⟨⟨a, b1, b2, b3, b4, b5, b6, b7⟩, c⟩, d1, d2, d3⟩ := h3 e he
  refine ⟨a, b1, b2, b3, fun x hx => ?_, fun x hx => ?_, b6, b7, c, d1, fun x hx => ?_, d3⟩
  · simpa [hx] using b4
  · simpa [hx] using b5
  · simpa [hx] using d2

/-- A node in RUN with a peer, a RECALL waiting and an ageing step in the queue. -/
def busy : State :=
  { node12 .run with
    peers := [peer 20]
    line := { LineInterface.powerOn with queue := { TxQueue.empty with recallPlace := some ⟨.recall, 0⟩ } }
    pending := [.ageingStep] }

/-- The configuration of node 12 is legal. -/
theorem configLegal_node12 : ConfigLegal (node12 .run).cfg := by
  refine ⟨by decide, ?_, by decide, ?_, ?_, ?_, by decide, ?_, by decide +kernel, by decide⟩
  · simp only [ChannelConfigLegal]; decide
  · simp only [LoopConfigLegal, SetpointLegal]; decide
  · simp only [IceConfigLegal, CeilingLegal]; decide
  · refine ⟨by decide, by decide, by decide, by decide, by decide, by decide, by decide, by decide, ?_, ?_⟩ <;>
      (intro e; cases e <;> decide)
  · intro n
    refine ⟨fun m l h => ?_, ?_⟩
    · simp [node12, Configuration.powerOn, Scene.powerOn] at h
    · simp [node12, Configuration.powerOn, Scene.powerOn]

/-- The configuration of node 12 is legal in every node state. -/
theorem configLegal_busy : ConfigLegal busy.cfg := configLegal_node12

theorem test_witness_StepRunsTheFrontCommand :
    let s := { node12 .run with gens := { Generators.powerOn with dimmers := setAt Generators.powerOn.dimmers 2 ⟨vg1, .begin 5 15⟩ } }
    s.pending = [] ∧ (s.gens.dimmers[2]).gen.running = true ∧ (s.gens.valves[0]).running = false ∧
      ((nextOf (step s)).gens.dimmers[2]).gen = { vg1 with count := 1 } := by decide +kernel
theorem test_witness_IllFormedCommandsChangeNothing : PeersLegal State.reset ∧ wellFormed (.entryLost 0) = false :=
  ⟨peersLegal_of_check (by decide), by decide⟩
theorem test_witness_StepKeepsPeersLegal : PeersLegal busy ∧ ∃ t, step busy = .next t :=
  ⟨peersLegal_of_check (by decide), _, rfl⟩
theorem test_witness_StepKeepsLineLegal : LineLegal busy ∧ ∃ t, step busy = .next t := by
  refine ⟨⟨by decide, by decide, ?_, by decide, ?_, by decide, by decide⟩, _, rfl⟩
  · simp [QueueLegal, busy, TxQueue.empty, PlaceLegal, ofRecall]
  · simp [busy, LineInterface.powerOn]
theorem test_witness_StepKeepsCausesLegal : CausesLegal busy ∧ ∃ t, step busy = .next t :=
  ⟨by unfold CausesLegal; decide, _, rfl⟩
theorem test_witness_StepKeepsGrantsLegal : GrantsLegal busy ∧ ∃ t, step busy = .next t :=
  ⟨by unfold GrantsLegal; decide, _, rfl⟩
theorem test_witness_StepKeepsFogLegal : FogLegal busy ∧ ∃ t, step busy = .next t :=
  ⟨by unfold FogLegal; decide +kernel, _, rfl⟩
theorem test_witness_StepKeepsCapsLegal :
    (PeersLegal busy ∧ CapsLegal busy ∧ ∃ t, step busy = .next t) ∧ ConfigLegal busy.cfg ∧
      PendingLegal { busy with light := { busy.light with pendingCues := [⟨20, 1, 5, none, 10, 1⟩, ⟨20, 2, 5, none, 10, 3000⟩] } } :=
  ⟨⟨peersLegal_of_check (by decide), by unfold CapsLegal; decide, _, rfl⟩, configLegal_busy, by unfold PendingLegal; decide⟩
theorem test_witness_StepKeepsGensLegal :
    (GensLegal busy ∧ ∃ t, step busy = .next t) ∧ ConfigLegal busy.cfg ∧ FogLegal busy ∧ CapsLegal busy ∧ SlotsLegal busy :=
  ⟨⟨by simp only [GensLegal, GeneratorLegal]; decide +kernel, _, rfl⟩, configLegal_busy, by unfold FogLegal; decide +kernel,
    by unfold CapsLegal; decide, by unfold SlotsLegal; decide +kernel⟩
theorem test_witness_StepKeepsMeasLegal : MeasLegal busy ∧ ∃ t, step busy = .next t :=
  ⟨by simp only [MeasLegal, ChannelLegal]; decide +kernel, _, rfl⟩
theorem test_witness_StepKeepsConfigLegal : ConfigLegal busy.cfg ∧ ∃ t, step busy = .next t :=
  ⟨configLegal_node12, _, rfl⟩
theorem test_witness_NodeStateMovesByTheTable :
    ∃ t, exec .start (node12 .unset) = .next t ∧ t.node.state = .listen := ⟨_, rfl, by decide +kernel⟩
theorem test_witness_ConfigurationChangesOnlyByWritesAndResets :
    ∃ t, exec (.configurationWrite 16#8 (nodeWrite 75)) (node12 .unset) = .next t ∧ t.cfg ≠ (node12 .unset).cfg := by
  refine ⟨_, rfl, fun h => ?_⟩
  have := congrArg (fun c => c.node.address) h
  revert this
  decide +kernel
theorem test_witness_ResetRowsTakePowerOnValues :
    (State.reset.setResetHeld true).resetHeld = true ∧ State.reset.resetHeld = false ∧
      (State.reset.waitForSelect .low).port.waitHigh = true := by decide

/-! ### Witnesses: START, RESTART and the port -/

/-- The node with channel 0 a TEMP channel that measures its zero. -/
def zeroing (x : NodeState) : State :=
  let s := node12 x
  { s with cfg := { s.cfg with channels := setAt s.cfg.channels 0 { ChannelConfig.powerOn with kind := .temp, autoZero := true } } }

/-- Node 12 with loops 0 and 1 configured on VG0, loop 1 naming FP3 as its backup pin. -/
def wrongLoops : Configuration :=
  { (node12 .unset).cfg with
    loops := setAt (setAt Configuration.powerOn.loops 0 { LoopConfig.powerOn 0 with cls := some .dry }) 1
      { LoopConfig.powerOn 0 with cls := some .dry, backupPin := some 3 } }

theorem test_witness_StartChecksPassExactly :
    startChecks (node12 .unset).cfg = none ∧
      (StartCase State.reset.cfg .address 0 ∧ startChecks State.reset.cfg = some ⟨.address, 0⟩) ∧
      (StartCase wrongLoops .valveGenerator 1 ∧ StartCase wrongLoops .backupPin 1 ∧
        TestedBefore .valveGenerator 1 .backupPin 1 ∧ startChecks wrongLoops = some ⟨.valveGenerator, 1⟩) := by
  refine ⟨by decide +kernel, ⟨⟨rfl, rfl⟩, by decide +kernel⟩, ⟨1, 0, rfl, by decide, by decide, by decide, rfl⟩,
    ⟨1, 3, rfl, by decide, rfl, by decide⟩, Or.inr ⟨rfl, Or.inr ⟨rfl, by decide⟩⟩, by decide +kernel⟩
theorem test_witness_StartEntersStarting :
    (portReady (node12 .unset) = true ∧ startChecks (node12 .unset).cfg = none ∧
      ∀ n : Fin 12, ((node12 .unset).cfg.channels[n.val]).kind = .unused) ∧
    portReady (zeroing .unset) = true ∧ startChecks (zeroing .unset).cfg = none ∧
      ((zeroing .unset).cfg.channels[0]).kind ≠ .unused ∧ ((zeroing .unset).cfg.channels[0]).autoZero = true := by
  decide +kernel
theorem test_witness_RefusedActionsChangeNothing :
    (portReady (node12 .run) = true ∧ portReady (node12 .starting) = true) ∧ portReady State.reset = true ∧
      startChecks State.reset.cfg = some ⟨.address, 0⟩ := by decide +kernel
theorem test_witness_RestartKeepsAndClears :
    (portReady (node12 (.mute .clash)) = true ∧ operatingIn (node12 (.mute .clash)).node.state = true ∧
      ∀ n : Fin 12, ((node12 (.mute .clash)).cfg.channels[n.val]).kind = .unused) ∧
    portReady (zeroing .run) = true ∧ ((zeroing .run).cfg.channels[0]).kind ≠ .unused ∧
      ((zeroing .run).cfg.channels[0]).autoZero = true := by decide +kernel
theorem test_witness_AckClearsUnchangedCauses :
    (portReady (node12 .run) = true ∧ (node12 .run).port.capturedSet = none) ∧
      (nextOf (exec (.causesSnapshot []) causesOf12)).port.capturedSet.isSome = true := by decide +kernel

/-- The node with cue input 0 configured for a cue number and a wait, in a node state. -/
def pulsing (x : NodeState) (number wait : Nat) : State :=
  let s := node12 x
  { s with cfg := { s.cfg with cueInputs := setAt s.cfg.cueInputs 0 { CueInputConfig.powerOn with number := number, wait := wait } } }

theorem test_witness_PulseOriginatesItsCue :
    (portReady (pulsing .run 255 0) = true ∧ operatingIn .run = true ∧ ((pulsing .run 255 0).cfg.cueInputs[0]).number = 255) ∧
      (((pulsing .run 254 0).cfg.cueInputs[0]).number ≠ 255 ∧ ((pulsing .run 254 0).cfg.cueInputs[0]).wait = 0) ∧
      (0 < ((pulsing .run 12 1).cfg.cueInputs[0]).wait ∧ (pulsing .run 12 1).light.pendingCues.length < 4 ∧
        (pulsing .run 12 1).line.cuesHeld < 2) ∧ mayTransmitIn (pulsing (.mute .stuck) 12 1).node.state = false ∧
      (let s := (pulsing .run 12 1).offerPending (cue 12 1 5 3);
        (inputCue s 0).serial = 1 ∧ (∃ p ∈ s.light.pendingCues, p.origin = 12 ∧ p.serial = 1) ∧
          ((s.offer (.cue (cue 12 1 5 3))).offer (.cue (cue 12 2 5 3))).line.cuesHeld = 2) := by
  decide +kernel
theorem test_witness_CausesSnapshotStoresTheSet : portReady causesOf12 = true := by decide +kernel
theorem test_witness_ReadOnlyTransactionsOnlyCapture :
    portReady (node12 .run) = true ∧ ((0#8).toNat = 0 ∧ (192#8).toNat = 192 ∧ (197#8).toNat = 197 ∧ (208#8).toNat = 208 ∧
      (239#8).toNat = 239) ∧ (node12 .unset).node.state = .unset ∧ windowOfCode 239#8 = some (.peer 31) ∧
      { node12 .run with peers := [peer 20] }.peers[0]? = some (peer 20) := by decide
/-- Eight PDI bits and the data of some fields. -/
def sending (fields : List (Nat × Nat)) : Bits := List.replicate 8 false ++ packFields fields

theorem test_witness_ConfigurationWritesAreJudged :
    (portReady (node12 .unset) = true ∧ (node12 .run).node.state ≠ .unset) ∧
      [(16, Window.node), (32, .measure 0), (43, .measure 11), (48, .source), (67, .loop 3), (80, .ice), (96, .fog), (119, .light 7),
          (128, .scene), (159, .cueMap 15), (165, .pins 5), (177, .cueIn 1)].all (fun x =>
        decide (windowOfCode (BitVec.ofNat 8 x.1) = some x.2 ∧ x.2.kind = .configuration)) = true ∧
      (nodeWrite 60).length = 8 + Window.node.length := by decide +kernel
/-- Tables 12-7 and 12-12: the ends of the ranges stand, the values beside them are clamped or refused. -/
theorem test_node_and_measure_fields :
    (NodeConfig.sent (nodeWrite 60)).map NodeConfig.limited = NodeConfig.sent (nodeWrite 60) ∧
      ((NodeConfig.sent (nodeWrite 61)).map fun c => c.limited.address) = some 60 ∧
      NodeConfig.sent (sending [(8, 12), (4, 1), (4, 5), (32, 0)]) = none ∧
      ChannelConfig.sent (sending [(4, 4), (4, 11), (16, 65336), (1, 1), (3, 0), (10, 1), (10, 1000), (112, 0)]) =
        some ⟨.unused, some .fogBeam, -200, true, 1, 1000⟩ ∧
      ChannelConfig.sent (sending [(4, 5), (4, 15), (152, 0)]) = none ∧ ChannelConfig.sent (sending [(4, 0), (4, 12), (152, 0)]) = none ∧
      ((ChannelConfig.sent (sending [(4, 0), (4, 15), (16, 65335), (4, 0), (10, 0), (10, 1001), (112, 0)])).map
        ChannelConfig.limited) = some ⟨.temp, none, -200, false, 1, 1000⟩ := by decide +kernel
/-- Table 12-8: the listed ends, one value beyond each, and the clamped fields. -/
theorem test_loop_fields :
    [(4, 3, 23), (4, 3, 31), (5, 3, 31), (4, 4, 31), (4, 3, 24)].map (fun x =>
        (LoopConfig.sent (sending [(4, x.1), (4, x.2.1), (8, x.2.2), (160, 0)])).isSome) = [true, true, false, false, false] ∧
      ((LoopConfig.sent (sending [(4, 0), (4, 0), (8, 31), (16, 9), (16, 4001), (16, 65035), (16, 1001), (32, 0), (16, 65036), (16, 4001),
          (16, 601), (16, 4001)])).map LoopConfig.limited) =
        some { cls := none, design := 4000, setIdle := -500, setPlay := 1000, setInterval := 0, setShow := 0, setNight := -500,
               band := 10, valve := 0, backupPin := none, threshold := 4000, hold := 600, fallback := 4000 } := by decide +kernel
/-- Tables 12-13 to 12-16: fields of zeros, and fields of ones. -/
theorem test_plain_fields :
    (SourceConfig.sent (sending [(16, 999), (16, 1001)])).limited = ⟨1000, 1000⟩ ∧
      (IceConfig.sent (sending [(208, 0)])).limited = ⟨0, 0, 0, 0, 0, 5, 0, 0, 0, 0, 5, 60⟩ ∧
      (IceConfig.sent (sending [(208, 2 ^ 208 - 1)])).limited = ⟨-1, -1, -1, -1, -1, 50, 100, -1, -1, 1000, 100, 900⟩ ∧
      (FogConfig.sent (sending [(256, 0)])).limited = ⟨0, 0, 0, 0, 0, 0, 2, 10, 0, 0, 0, 0, 0, 0, 0, 0⟩ ∧
      (FogConfig.sent (sending [(256, 2 ^ 256 - 1)])).limited =
        ⟨-1, -1, 100, 200, 1000, 300, 60, 600, 1000, 1000, 1000, 1000, 1000, 1000, 1000, 1000⟩ ∧
      sentField (sending [(16, 501)]) 0 16 = 501 := by decide +kernel
/-- Tables 12-17 to 12-19: the listed ends and one value beyond each. -/
theorem test_listed_fields :
    CueMapEntry.sent (sending [(48, 0), (8, 255), (8, 31)]) 3 = some ⟨255, 31⟩ ∧
      CueMapEntry.sent (sending [(8, 0), (8, 32), (48, 0)]) 0 = none ∧
      PinConfig.sent (sending [(16, 0), (4, 3), (4, 1), (8, 224), (32, 0)]) 1 = some ⟨.cueIn 1, .openDrain, true, .inverted⟩ ∧
      [(0, 8), (1, 4), (2, 4), (3, 2), (4, 1), (8, 1), (9, 0)].all (fun x =>
        (PinConfig.sent (sending [(4, x.1), (4, x.2), (56, 0)]) 0).isNone) = true ∧
      [0, 4, 5, 6, 7].map (fun c => (CueInputConfig.sent (sending [(8, 255), (3, c), (5, 0), (32, 0)])).map fun x => x.phase) =
        [some (some .idle), some (some .night), none, none, some none] := by decide +kernel
theorem test_witness_SceneTransactionSetsPointerAndScene :
    natOfBits ((((List.replicate 8 false) ++ bitsOfNat 8 31).drop 8).take 8) = 31 ∧
      natOfBits ((((List.replicate 8 false) ++ bitsOfNat 8 32).drop 8).take 8) = 32 ∧
      (let pdi := (List.replicate 8 false) ++ bitsOfNat 8 31 ++ List.replicate 152 true;
        pdi.length = 168 ∧ natOfBits ((pdi.drop 16).take 16) = 65535 ∧ natOfBits ((pdi.drop 152).take 8) = 255) ∧
      portReady (node12 .unset) = true := by decide +kernel
theorem test_witness_ConfigurationReadsBackAsWritten :
    portReady (node12 .unset) = true ∧ windowOfCode 16#8 = some .node ∧ Window.node.kind = .configuration ∧
      ConfigLegal (node12 .run).cfg ∧ (node12 .run).meas = (node12 .unset).meas :=
  ⟨by decide, by decide, rfl, configLegal_node12, rfl⟩
theorem test_witness_UnappliedTransactionsChangeOnlyThePort :
    windowOfCode 17#8 = none ∧ (List.replicate 7 true).length < 8 ∧ windowOfCode (codeOfBits (bitsOfNat 8 16)) = some .node ∧
      Window.node.kind ≠ .readOnly ∧ (bitsOfNat 8 16).length ≠ 16 + Window.node.length ∧
      (let bits := bitsOfNat 8 128 ++ List.replicate 8 false ++ bitsOfNat 8 31;
        codeOfBits bits = 128#8 ∧ bits.length = 24 ∧ natOfBits ((bits.drop 16).take 8) = 31) := by decide

/-! ### Witnesses: measurement -/

/-- The node in a state with channel 0 of a kind, a live record and a conversion due. -/
def due (x : NodeState) (k : ChannelKind) (c : ChannelLive) : State :=
  let s := node12 x
  { s with
    cfg := { s.cfg with channels := setAt s.cfg.channels 0 { ChannelConfig.powerOn with kind := k } }
    meas := { channels := setAt s.meas.channels 0 c, zeroSchedule := [0, 1], scanSchedule := [0] } }

theorem test_witness_InRangeConversionFiltersAndJudges :
    [ChannelKind.temp, .humid, .flow, .beam].all (fun k =>
      decide (((due .run k .powerOn).cfg.channels[0]).kind = k ∧ (due .run k .powerOn).meas.scanSchedule.head? = some 0 ∧
        ((due .run k .powerOn).meas.channels[0]).zeroState ≠ .outOfRange ∧
        ((due .run k .powerOn).meas.channels[0]).quality ≠ .failed ∧
        ((due .run k .powerOn).meas.channels[0]).ring.length ≤ 4)) = true ∧ 3 ≤ (3#12).toNat ∧ (4092#12).toNat ≤ 4092 := by
  decide +kernel
theorem test_witness_OutOfRangeConversionFailsAtThree :
    [1, 2].all (fun k => decide (((due .run .temp { ChannelLive.powerOn with outRun := k }).meas.channels[0]).outRun = k ∧
      (due .run .temp { ChannelLive.powerOn with outRun := k }).meas.scanSchedule.head? = some 0)) = true ∧
      ((2#12).toNat ≤ 2 ∧ 4093 ≤ (4093#12).toNat) ∧
      [2, 3].all (fun k => decide (((due .run .temp { ChannelLive.powerOn with quality := .failed, outRun := k }).meas.channels[0]).quality =
        .failed)) = true := by decide +kernel
theorem test_witness_FailedChannelRecoversAtTheEighth :
    [(6, ZeroState.done), (7, .done), (0, .outOfRange)].all (fun x =>
      let s := due .run .temp { ChannelLive.powerOn with quality := .failed, inRun := x.1, zeroState := x.2 }
      decide (s.meas.scanSchedule.head? = some 0 ∧ (s.meas.channels[0]).quality = .failed ∧
        (s.meas.channels[0]).inRun = x.1 ∧ (s.meas.channels[0]).zeroState = x.2)) = true := by decide +kernel
theorem test_witness_ReferenceConversionsFormTheCorrection :
    (let s := due .starting .temp { ChannelLive.powerOn with zeroCounts := List.replicate 7 1848 };
      s.node.state = .starting ∧ s.meas.zeroSchedule.head? = some 0 ∧ s.meas.zeroSchedule.tail ≠ [] ∧
        (s.meas.channels[0]).zeroCounts.length = 7) ∧
    (|(2048 : Int) - (((List.replicate 7 1848).sum + 1848) / 8 : Nat)| ≤ 200 ∧
      200 < |(2048 : Int) - (((List.replicate 7 1847).sum + 1847) / 8 : Nat)|) ∧
    (List.replicate 6 1848).length < 7 ∧
      ({ (due .starting .temp .powerOn).meas with zeroSchedule := [0] } : Measurement).zeroSchedule.tail = [] := by
  decide +kernel
theorem test_witness_ScanSchedulesUsedChannels :
    operatingIn (node12 .listen).node.state = true ∧ (node12 .listen).meas.scanSchedule = [] := by decide

/-! ### Witnesses: status and peers -/

theorem test_witness_PeriodExpiryComposesInRun :
    operatingIn (node12 .run).node.state = true ∧ (∀ n : Fin 8, (node12 .run).cfg.coefficients[n.val] = 0) ∧
      (node12 .listen).comp.expiryCount = 0 ∧ operatingIn (node12 (.mute .clash)).node.state = true ∧
      0 < (setAt (node12 .run).cfg.coefficients 7 1)[7] := by decide
theorem test_witness_SecondExpiryEntersRun :
    let s := (node12 .listen).setComp { expiryCount := 1, first := false }
    s.node.state = .listen ∧ s.comp.expiryCount = 1 := by decide

/-- The node in RUN with one peer entry. -/
def withPeer (e : PeerEntry) : State := { node12 .run with peers := [e] }

theorem test_witness_PhaseSplitCountsFreshDifferences :
    PeersLegal (withPeer { peer 20 with phase := .night, splitCounter := 2 }) ∧
      (withPeer { peer 20 with phase := .night, splitCounter := 2 }).light.phase ≠ .night :=
  ⟨peersLegal_of_check (by decide), by decide⟩
theorem test_witness_AgeingStaleAndLost :
    PeersLegal (withPeer { peer 20 with age := 150 }) ∧ 150 = 3 * (25 * ((peer 20).period + 1)) ∧
      PeersLegal (withPeer { peer 20 with age := 400, stale := true }) ∧ 400 = 8 * (25 * ((peer 20).period + 1)) :=
  ⟨peersLegal_of_check (by decide), by decide, peersLegal_of_check (by decide), by decide⟩

/-- The node in RUN, receiving, with a Peer Table. -/
def hearingWith (l : List PeerEntry) : State := hearing { node12 .run with peers := l }

/-- A full table: 31 entries at addresses 13 to 43. -/
def fullTable : List PeerEntry := (List.range 31).map fun i => peer (13 + i)

/-- The STATUS of address 20 with phase code 6 and its check word formed anew. -/
def discardedStatus : Frame :=
  let f := { statusFrom 20 3 with elements := [⟨0xC801#16, false, false⟩, ⟨0#16, true, false⟩] }
  { f with check := crc f.coveredBits }

theorem test_witness_StatusReceivedStoresOrIgnores :
    (PeersLegal (hearingWith []) ∧ PeersLegal (hearingWith fullTable) ∧ PeersLegal (hearingWith [peer 20])) ∧
      canReceive (hearingWith []) = true ∧
      (statusFrom 20 0).valid = true ∧ (statusFrom 20 0).kind = .status ∧ (statusFrom 20 0).sender.toNat = 20 ∧
      (statusFrom 20 0).readStatus = some (status 0) ∧ fullTable.length = 31 ∧ (∀ e ∈ fullTable, e.address ≠ 60) ∧
      (statusFrom 60 0).valid = true ∧ (status 0).sequence = (peer 20).lastSequence ∧ (statusFrom 20 15).valid = true ∧
      ((TxFrame.status { status 0 with first := true }).toFrame 20).readStatus = some { status 0 with first := true } ∧
      discardedStatus.valid = true ∧ discardedStatus.kind = .status ∧ discardedStatus.readStatus = none :=
  ⟨⟨peersLegal_of_check (by decide), peersLegal_of_check (by decide +kernel), peersLegal_of_check (by decide)⟩, by decide +kernel⟩
theorem test_witness_FogReceivedMarksTheSender :
    canReceive (hearingWith [peer 20]) = true ∧ ((TxFrame.fog true).toFrame 20).valid = true ∧
      ((TxFrame.fog true).toFrame 20).dataAt 0 = 1 ∧ ((TxFrame.fog false).toFrame 20).valid = true ∧
      ((TxFrame.fog false).toFrame 20).dataAt 0 = 2 ∧ ((TxFrame.fog true).toFrame 20).sender.toNat ≠ 12 := by decide +kernel

/-! ### Witnesses: cues and lighting -/

/-- A CUE frame from address 20. -/
def cueFrame (c : Cue) : Frame := (TxFrame.cue c).toFrame 20

/-- A table whose entry of address 20 has last cue serial 10. -/
def serial10 : List PeerEntry := [{ peer 20 with lastCueSerial := some 10 }]

/-- A pending cue of address 20. -/
def waiting (serial : Nat) : PendingCue := ⟨20, serial, 5, none, 10, 100⟩

theorem test_witness_CueReceivedIsJudgedAndActs :
    (PeersLegal (hearingWith serial10) ∧ canReceive (hearingWith serial10) = true) ∧
      [cue 20 11 255 0, cue 20 137 5 0, cue 20 138 5 0, cue 20 11 5 600].all (fun c =>
        (cueFrame c).valid && !(cueFrame c).replayMark && decide ((cueFrame c).readCue = some c)) = true ∧
      ((cueFrame (cue 21 11 5 0)).valid = true ∧ (cueFrame (cue 21 11 5 0)).readCue = none) ∧
      (((137 : Int) - 10) % 256 = 127 ∧ ((138 : Int) - 10) % 256 = 128) ∧
      [waiting 1, waiting 2, waiting 3].length < 4 ∧ 4 ≤ [waiting 1, waiting 2, waiting 3, waiting 4].length ∧
      ∃ p ∈ [waiting 11], p.origin = 20 ∧ p.serial = 11 :=
  ⟨⟨peersLegal_of_check (by decide), by decide⟩, by decide +kernel⟩

/-- A replay from address 20 of a cue of address 30. -/
def replayFrame : Frame := (TxFrame.replay (cue 30 42 12 0)).toFrame 20

theorem test_witness_ReplayAndRecallReceived :
    canReceive (hearing (node12 .listen)) = true ∧ (node12 .listen).light.takeMarker = false ∧
      (replayFrame.valid = true ∧ replayFrame.kind = .cue ∧ replayFrame.replayMark = true ∧
        replayFrame.readCue = some (cue 30 42 12 0) ∧ replayFrame.sender.toNat ≠ 12) ∧
      ((TxFrame.recall.toFrame 20).valid = true ∧ (TxFrame.recall.toFrame 20).kind = .recall) ∧
      (let s := (node12 .run).recordTake (recordOfCue (cue 30 42 12 0));
        s.node.state = .run ∧ s.light.current.isSome = true ∧ s.line.queue.replayPlace = none ∧ s.line.stage = none) := by
  decide +kernel
/-- The node in RUN with a pending list and a fade on channel 2. -/
def fading (l : List PendingCue) (f : Fade) : State :=
  let s := node12 .run
  s.setLight { s.light with pendingCues := l, fades := setAt s.light.fades 2 f }

theorem test_witness_FadeStepServesThenAdvances :
    (operatingIn (fading [{ waiting 1 with remaining := 1 }] .powerOn).node.state = true ∧
      (∀ p ∈ (fading [{ waiting 1 with remaining := 1 }] .powerOn).light.pendingCues, p.number ≠ 255) ∧
      ∃ p ∈ (fading [{ waiting 1 with remaining := 1 }] .powerOn).light.pendingCues, p.remaining ≤ 1) ∧
    ((∀ p ∈ (fading [waiting 1] (Fade.powerOn.begin 900 0)).light.pendingCues, 1 < p.remaining ∧ p.number ≠ 255) ∧
      ((fading [waiting 1] (Fade.powerOn.begin 900 0)).light.fades[2]).state = .fading ∧
      ((fading [waiting 1] (Fade.powerOn.begin 900 0)).light.fades[2]).length ≤ 0 + 1) ∧
    0 + 1 < ((fading [waiting 1] (Fade.powerOn.begin 900 1)).light.fades[2]).length ∧
    ((fading [waiting 1] .powerOn).light.fades[2]).state ≠ .fading := by decide +kernel
theorem test_witness_CapStepSlewsTowardTheTarget :
    (operatingIn (node12 .run).node.state = true ∧ bound (node12 .run).cfg .iceSurface = false ∧
      ∀ e ∈ (node12 .run).peers, e.cap = none) ∧
    bound (reading (node12 .run) 3 .temp .iceSurface 0 .good).cfg .iceSurface = true ∧
    ∃ e ∈ (withPeer { peer 20 with cap := some 430 }).peers, e.cap ≠ none := by decide +kernel

/-- The node in RUN with FP5 carrying cue input 0, pulled up and inverted as in section 9.7, and its record. -/
def button (c : CueInput) : State :=
  let s := node12 .run
  { s with
    cfg := { s.cfg with pins := setAt s.cfg.pins 5 { function := .cueIn 0, drive := .pushPull, pullUp := true, polarity := .inverted } }
    pins := { s.pins with cueInputs := setAt s.pins.cueInputs 0 c } }

/-- Cue input 0 sampling, armed or not, with a debounced level. -/
def input (armed : Bool) (d : Option Bool) (arming change : Nat) : CueInput :=
  { sampling := true, armed := armed, armingRun := arming, lastLevel := some false, debounced := d, changeRun := change }

theorem test_witness_CueInputSampleArmsAndAccepts :
    (operatingIn (button .stopped).node.state = true ∧ ∀ m : Fin 2, ((button .stopped).pins.cueInputs[m.val]).sampling = false) ∧
      [input false none 18 0, input false none 19 0, input true (some false) 20 0, input true (some true) 20 6,
          input true (some true) 20 7].all (fun c =>
        decide ((button c).pins.cueInputs[0] = c ∧ ((button c).cfg.pins[5]).function = .cueIn 0 ∧
          (∀ q : Fin 24, q < 5 → ((button c).cfg.pins[q.val]).function ≠ .cueIn 0) ∧ ((button c).cfg.pins[5]).pullUp = true ∧
          ((button c).pins.cueInputs[1]).sampling = false)) = true ∧
      (Vector.replicate 24 BoardLevel.opened)[5] = .opened ∧ (node12 .run).line.cuesHeld < 2 := by
  decide +kernel

/-- The node with both cue inputs on pins held high, armed and seven samples into a rise. -/
def bothRising : State :=
  let s := node12 .run
  let c : CueInput := input true (some false) 20 7
  { s with
    cfg := { s.cfg with pins := setAt (setAt s.cfg.pins 5 ⟨.cueIn 0, .pushPull, true, .normal⟩) 6 ⟨.cueIn 1, .pushPull, true, .normal⟩ }
    pins := { s.pins with cueInputs := Vector.replicate 2 c } }

/-- Both inputs accept a rising edge at one sample: two cues are originated, input 0's first (log entry 35). -/
theorem test_witness_CueInputSampleArmsAndAccepts_both :
    let t := nextOf (exec (.cueInputSample (Vector.replicate 24 .high)) bothRising)
    (t.pins.cueInputs[0]).debounced = some true ∧ (t.pins.cueInputs[1]).debounced = some true ∧ t.line.cueSerial = 2 := by
  decide +kernel

/-! ### Witnesses: the arena line -/

/-- The node in RUN on an idle line after k slot starts, with a queue. -/
def idling (q : TxQueue) (k : Nat) : State :=
  let s := node12 .run
  s.setLine { s.line with queue := q, access := .idle k }

theorem test_witness_SlotCountAndAttempts :
    (operatingIn (idling .empty 3).node.state = true ∧ (idling .empty 3).line.access ≠ .sending ∧
      (idling .empty 3).line.queue = .empty) ∧ mayTransmitIn (.mute .clash) = false ∧
    (HeadOf { TxQueue.empty with fogPlace := some ⟨.fog true, 0⟩ } .empty ⟨.fog true, 0⟩ ∧
      HeadOf { TxQueue.empty with recallPlace := some ⟨.recall, 1⟩ } .empty ⟨.recall, 1⟩ ∧
      HeadOf { TxQueue.empty with replayPlace := some ⟨.replay (cue 30 42 12 0), 4⟩ } .empty ⟨.replay (cue 30 42 12 0), 4⟩ ∧
      HeadOf { TxQueue.empty with statusPlace := some ⟨.status (status 3), 0⟩ } .empty ⟨.status (status 3), 0⟩) ∧
    HeadOf { TxQueue.empty with cuePlaces := [⟨.cue (cue 12 1 5 0), 2⟩] } .empty ⟨.cue (cue 12 1 5 0), 2⟩ ∧
    (12 / 2 ^ (2 % 6) % 2 = 11 % 10 ∧ 2 + ((12 % 8) ^^^ (0 / 2 % 8)) = 6 % 10) := by
  refine ⟨by decide, by decide, ?_, Or.inr (Or.inl ⟨rfl, [], rfl, rfl⟩), by decide⟩
  simp [HeadOf, TxQueue.empty]
theorem test_witness_FailedAttemptsReturnTheFrame :
    (attempting (node12 .run) .recall 14).line.access = .sending ∧
      ∃ st, (attempting (node12 .run) .recall 14).line.stage = some st ∧ st.queued.attempt < 15 :=
  ⟨rfl, _, rfl, by decide⟩
theorem test_witness_SixteenthFailureDropsTheFrame :
    [TxFrame.cue (cue 12 1 5 0), .status (status 3), .fog true, .recall, .replay (cue 30 42 12 0)].all (fun f =>
      decide ((attempting (node12 .run) f 15).line.access = .sending) &&
        (attempting (node12 .run) f 15).line.stage.any (fun st => decide (st.queued.attempt = 15 ∧ st.queued.frame = f))) = true ∧
    (attempting (node12 .run) .recall 14).line.stage.any (fun st => decide (st.queued.attempt < 15)) = true := by decide +kernel
theorem test_witness_WholeSendLeavesTheNode :
    [true, false].all (fun first => (attempting (node12 .run) (.status { status 3 with first := first }) 0).line.stage.any
      fun st => decide (st.queued.frame = .status { status 3 with first := first })) = true := by decide +kernel

/-- A complete frame whose check word is wrong. -/
def wrongCheck : Frame := { statusFrom 20 3 with check := 0 }

theorem test_witness_InvalidFramesAreScored :
    (wrongCheck.elements.length = wrongCheck.count.toNat ∧ wrongCheck.valid = false) ∧ canReceive (hearing (node12 .listen)) = true ∧
      ((node12 .run).setAccess .disturbed).line.access = .disturbed := by decide +kernel
theorem test_witness_StuckLineMutesAndQuietReturns :
    mayTransmitIn (node12 .listen).node.state = true ∧ (node12 (.mute .clash)).node.state = .mute .clash ∧
      (let s := (node12 (.mute .stuck)).setAccess (.idle 0); s.node.state = .mute .stuck ∧ s.line.access = .idle 0) := by decide
theorem test_witness_OwnAddressIsAClash :
    [TxFrame.status (status 3), .fog true, .recall, .cue (cue 12 1 5 0), .replay (cue 30 42 12 0)].all (fun f =>
      (f.toFrame 12).valid && decide ((f.toFrame 12).sender.toNat = 12 ∧ (f.toFrame 12).kind = f.kind)) = true ∧
    canReceive (hearing (node12 .run)) = true ∧ operatingIn (node12 (.mute .stuck)).node.state = true ∧
      ((node12 .run).setAccess .disturbed).line.access = .disturbed := by decide +kernel
theorem test_witness_FramesReadBackAsSent :
    (let c := { status 15 with period := 7, offer := 65535, cap := some 65535, radiant := some 65535,
                               demands := [demand .heave 4095, demand .dry 0, demand .stand 1, demand .melt 4095] };
      c.sequence ≤ 15 ∧ c.period ≤ 7 ∧ c.offer ≤ 65535 ∧ c.demands.length ≤ 4 ∧ (∀ d ∈ c.demands, d.amount ≤ 4095) ∧
        ((TxFrame.status c).toFrame 60).valid = true) ∧
    ((cue 60 255 255 600).number ≤ 255 ∧ (cue 60 255 255 600).serial ≤ 255 ∧ 1 ≤ (cue 60 255 255 600).origin ∧
      (cue 60 255 255 600).wait ≤ 600 ∧ ((TxFrame.cue (cue 60 255 255 600)).toFrame 60).readCue = some (cue 60 255 255 600)) := by
  decide +kernel

/-! ### Witnesses: ice and fog -/

/-- Node 12 with ice in a phase, its surface reading v with a quality. -/
def icy (v : Int) (q : Quality) (p : Phase) (i : IceLive) : State :=
  let s := reading (node12 .run) 3 .temp .iceSurface v q
  { s with ice := i, light := { s.light with phase := p } }

/-- Ice Watch after the evaluation of a state. -/
def iceAfter (s : State) : IceLive := (nextOf (exec .iceEvaluation s)).ice

theorem test_witness_IceEvaluationTakesItsSteps :
    (operatingIn (icy (-70) .good .play .powerOn).node.state = true ∧
      readBinding (icy (-70) .good .play .powerOn) .iceSurface = some ⟨-70, .good⟩) ∧
    ((iceAfter (icy (-70) .good .play .powerOn)).margin = 20 ∧ (iceAfter (icy (-70) .good .play .powerOn)).state = .firm ∧
      (iceAfter (icy (-50) .good .play .powerOn)).margin = 0 ∧ (iceAfter (icy (-50) .good .play .powerOn)).state = .soft) ∧
    ((iceAfter (icy (-49) .good .play { IceLive.powerOn with warmRun := 29 })).state = .warm ∧
      (iceAfter (icy (-49) .good .play { IceLive.powerOn with warmRun := 28 })).warmRun < 30) ∧
    ((icy 0 .failed .play { IceLive.powerOn with failureCount := 60 }).ice.failureCount = 60 ∧
      (iceAfter (icy 0 .failed .play { IceLive.powerOn with failureCount := 60 })).failureCount = 61) ∧
    ((iceAfter (icy 0 .good .interval { IceLive.powerOn with ring := List.replicate 10 (-20) })).floodTimer = 300 ∧
      (iceAfter (icy 0 .good .play { IceLive.powerOn with floodTimer := 1 })).floodTimer = 0 ∧
      (iceAfter (icy 0 .good .interval { IceLive.powerOn with floodTimer := 1, ring := [0] })).floodTimer = 0) := by
  decide +kernel

/-- Node 12 with a margin path and a beam path of given readings, and a fog record. -/
def foggy (bt rh il : Int) (q : Quality) (beam : Option Reading) (f : FogLive) : State :=
  let s := reading (reading (reading (node12 .run) 0 .temp .bowlAirT bt q) 1 .humid .bowlAirRh rh .good) 2 .temp .iceLayerAir il .good
  let s := match beam with
    | some b => reading s 3 .beam .fogBeam b.value b.quality
    | none => s
  { s with fog := f }

/-- A fog record in a margin state, as in view. -/
def fogIn (l : FogLevel) : FogLive :=
  { FogLive.powerOn with
    marginState := l
    own := l
    effectiveLevel := l
    regen := FogConfig.powerOn.regen l
    curtail := FogConfig.powerOn.curtail l
    fanDemand := fanOf l }

/-- A fog record in beam fog with a clear run. -/
def inBeamFog (run : Nat) : FogLive :=
  { fogIn .fog with marginState := .act, beamActive := true, beamFog := true, clearRun := run }

theorem test_witness_FogEvaluationJudgesTheMargin :
    (∀ l ∈ [FogLevel.clear, .watch, .act], FogLegal (foggy 120 780 110 .good none (fogIn l)) ∧
      (foggy 120 780 110 .good none (fogIn l)).fog.marginState = l ∧ (fogIn l).beamFog = false) ∧
    (readBinding (foggy 120 780 110 .failed none (fogIn .clear)) .bowlAirT = some ⟨120, .failed⟩ ∧
      readBinding (foggy 120 780 110 .good none (fogIn .clear)) .bowlAirRh = some ⟨780, .good⟩ ∧
      readBinding (foggy 120 780 110 .good none (fogIn .clear)) .iceLayerAir = some ⟨110, .good⟩ ∧
      readBinding (foggy 120 780 110 .good none (fogIn .clear)) .fogBeam = none) ∧
    (nextOf (exec .fogEvaluation (foggy 120 780 110 .failed none { fogIn .clear with failureCount := 60 }))).fog.marginState =
      .act := by
  simp only [FogLegal]
  decide +kernel
/-- The same on a node with both paths, and on one with neither. -/
theorem test_witness_FogEvaluationJudgesTheMargin_paths :
    (FogLegal (foggy 120 780 110 .good (some ⟨750, .good⟩) (fogIn .act)) ∧ bound (node12 .run).cfg .iceLayerAir = false) ∧
      FogLegal (node12 .run) ∧ operatingIn (node12 .run).node.state = true := by
  simp only [FogLegal]
  decide +kernel
theorem test_witness_BeamFogIsSetAndCleared :
    (FogLegal (foggy 120 780 110 .good (some ⟨640, .good⟩) { fogIn .act with belowRun := 9 }) ∧
      readBinding (foggy 120 780 110 .good (some ⟨640, .good⟩) (fogIn .act)) .fogBeam = some ⟨640, .good⟩) ∧
    ((nextOf (exec .fogEvaluation (foggy 120 780 110 .good (some ⟨640, .good⟩) { fogIn .act with belowRun := 9 }))).fog.beamFog =
        true ∧
      (nextOf (exec .fogEvaluation (foggy 120 780 110 .good (some ⟨640, .good⟩) { fogIn .act with belowRun := 8 }))).fog.belowRun =
        9 ∧
      (nextOf (exec .fogEvaluation (foggy 120 780 110 .good (some ⟨700, .good⟩) { fogIn .act with belowRun := 9 }))).fog.belowRun =
        0) ∧
    FogLegal (foggy 120 780 110 .good (some ⟨750, .good⟩) (inBeamFog 119)) ∧
    ((nextOf (exec .fogEvaluation (foggy 120 780 110 .good (some ⟨750, .good⟩) (inBeamFog 119)))).fog.own = .watch ∧
      (nextOf (exec .fogEvaluation (foggy 120 780 110 .good (some ⟨749, .good⟩) (inBeamFog 119)))).fog.clearRun = 0 ∧
      (nextOf (exec .fogEvaluation (foggy 120 780 110 .good (some ⟨640, .failed⟩) (inBeamFog 119)))).fog.beamFog = false) := by
  simp only [FogLegal]
  decide +kernel

/-! ### Witnesses: heat, generators and pins -/

theorem test_witness_ShareEvaluationObeysItsLaws :
    (remainderBefore 3000 nightRecords .heave = 3000 ∧ remainderBefore 3000 nightRecords .dry = 2800 ∧
      remainderBefore 3000 nightRecords .stand = 1900 ∧ remainderBefore 3000 nightRecords .melt = 0) ∧
    (∀ c ∈ [HeatClass.heave, .dry, .stand, .melt],
      classTotal nightRecords c = ((nightRecords.filter fun d => decide (d.cls = c)).map fun d => d.amount).sum) ∧
    grantOf 3000 nightRecords (demand .stand 1200) < 1200 ∧ classField .stand < classField .melt ∧
      demand .melt 400 ∈ nightRecords := by decide

/-- Node 12 of section 6.7: loop 1 STAND, its temperature reading v with a quality, a source of its own, and a loop record. -/
def heated (q : Quality) (l : LoopLive) : State :=
  let s := reading (reading (reading (reading (node12 .run) 0 .temp (.loopT 1) 170 q) 1 .temp .sourceSupplyT 350 .good) 2 .temp
    .sourceReturnT 270 .good) 3 .flow .sourceFlow 200 .good
  { s with
    cfg := { s.cfg with loops := setAt s.cfg.loops 1 { standLoop with design := 2000, setIdle := 200, valve := 1 } }
    heat := { s.heat with loops := setAt s.heat.loops 1 l } }

/-- Node 12's loop 1 after a period expiry. -/
def loop1After (s : State) : LoopLive := (nextOf (exec .statusPeriodExpiry s)).heat.loops[1]

theorem test_witness_ExpiryComputesOfferDemandsAndDuties :
    (operatingIn (heated .good .powerOn).node.state = true ∧ readBinding (node12 .run) .sourceFlow = none ∧
      readBinding (heated .good .powerOn) .sourceSupplyT = some ⟨350, .good⟩ ∧
      readBinding (heated .good .powerOn) .sourceReturnT = some ⟨270, .good⟩ ∧
      readBinding (heated .good .powerOn) .sourceFlow = some ⟨200, .good⟩ ∧
      readBinding (heated .failed .powerOn) (.loopT 1) = some ⟨170, .failed⟩) ∧
    ((loop1After (heated .good .powerOn)).demand = 1200 ∧ (loop1After (heated .good .powerOn)).grant = 1200 ∧
      (loop1After (heated .good .powerOn)).duty = 600) ∧
    (nextOf (exec .statusPeriodExpiry (heated .good .powerOn))).heat.summary = ⟨6000, 1, 0, 0, 1200, 0, none, 4800⟩ ∧
    (loop1After (heated .failed .powerOn)).failureTimer = some 0 ∧
    ((loop1After (heated .failed { LoopLive.powerOn with failureTimer := some 59499, held := 7 })).kind = .held ∧
      (loop1After (heated .failed { LoopLive.powerOn with failureTimer := some 59500, held := 7 })).kind = .fallback) := by
  decide +kernel
theorem test_witness_BackupStagesAreJudged :
    (operatingIn (heated .good .powerOn).node.state = true ∧ ((heated .good .powerOn).cfg.loops[1]).threshold = 300 ∧
      ((heated .good .powerOn).cfg.loops[1]).hold = 120) ∧
    ((nextOf (exec (.backupOn 1) (heated .good { LoopLive.powerOn with demand := 300, holdCount := some 119 }))).heat.loops[1]).backup =
      true ∧
    ((nextOf (exec .backupExpiry (heated .good { LoopLive.powerOn with demand := 299 }))).heat.loops[1]).holdCount = none ∧
    ((nextOf (exec .backupExpiry (heated .good { LoopLive.powerOn with demand := 149, backup := true }))).heat.loops[1]).backup =
      false ∧
    ((heated .good { LoopLive.powerOn with failureTimer := some 59999 }).heat.loops[1]).failureTimer = some 59999 := by
  decide +kernel

/-- Node 12 with a running DG2, its strobe, and VG1. -/
def generating (st : Strobe) : State :=
  let s := node12 .run
  { s with gens := { dimmers := setAt s.gens.dimmers 2 ⟨vg1, st⟩, valves := setAt s.gens.valves 1 vg1 } }

theorem test_witness_GeneratorsStepTheirPeriods :
    (((generating (.begin 5 15)).gens.dimmers[2]).gen.running = true ∧ ((generating (.begin 5 15)).gens.valves[1]).running = true ∧
      0 < vg1.activeLevel ∧ vg1.activeLevel < 1000 ∧ vg1.count < vg1.activeLevel) ∧
    ((generating (.begin 5 15)).gens.dimmers[2]).strobe.active = true ∧ 1 < (Strobe.begin 5 15).counter ∧
      ((Strobe.begin 1 15).counter = 1 ∧ (Strobe.begin 1 15).expire.phase = .offTime) ∧
    (generating (.begin 5 15)).pending = [] ∧ ({ vg1 with count := 400 } : Generator).activeLevel ≤ 400 ∧ vg1.part = 0 ∧
      vg1.count + 1 ≠ vg1.activeLevel ∧ ({ vg1 with count := 399 } : Generator).count + 1 = vg1.activeLevel := by decide
theorem test_witness_PinsDriveTheirFunctions :
    (node12 .unset).node.state = .unset ∧ ((node12 .run).cfg.pins[0]).function = .input ∧ (node12 .run).node.state ≠ .unset ∧
      pinDrive (nextOf (exec (.configurationWrite 160#8 (List.replicate 8 false ++ packFields [(4, 6), (12, 0), (48, 0)]))
        (node12 .unset))) 0 = none ∧
      (let s := node12 .run;
        pinDrive { s with cfg := { s.cfg with pins := setAt s.cfg.pins 0 ⟨.outHigh, .pushPull, false, .inverted⟩ } } 0 = some false ∧
        pinDrive { s with cfg := { s.cfg with pins := setAt s.cfg.pins 0 ⟨.outHigh, .openDrain, false, .normal⟩ } } 0 = none ∧
        pinDrive { s with cfg := { s.cfg with pins := setAt s.cfg.pins 0 ⟨.outLow, .openDrain, false, .normal⟩ } } 0 = some false) := by
  decide +kernel

/-- Table 9-3 and R147: the levels read at a driven pin, an overpowered one, a released one and a pulled-up one. -/
theorem test_witness_PinsDriveTheirFunctions_raw :
    let s := fun (f : PinFunction) (b : BoardLevel) =>
      { node12 .run with
        cfg := { (node12 .run).cfg with pins := setAt (node12 .run).cfg.pins 23 ⟨f, .pushPull, true, .normal⟩ }
        pins := { FieldPins.powerOn with board := Vector.replicate 24 b } }
    (pinDrive (s .outHigh .low) 23 = some true ∧ rawLevel (s .outHigh .low) 23 = true) ∧
      rawLevel (s .outHigh .forcedLow) 23 = false ∧ rawLevel (s .outLow .forcedHigh) 23 = true ∧
      (pinDrive (s .input .low) 23 = none ∧ rawLevel (s .input .low) 23 = false) ∧ rawLevel (s (.cueIn 0) .high) 23 = true ∧
      rawLevel (s (.cueIn 0) .opened) 23 = true := by decide +kernel

end Sys2Proof.Tests
end

/-!
PROOFS. The arena line: a whole send (R44). What an attempt under way, the FIRST marker of a frame and `sendWhole` are, said once
each; the statement is assembled from them.
-/
namespace Sys2Proof.Machine

/-- The row WHOLE_SEND has the meaning `execWholeSend`. -/
theorem exec_wholeSend (s : State) : exec .wholeSend s = execWholeSend s := rfl

/-- While the node is sending, the attempt under way is that of the staged frame (R48). -/
theorem attemptUnderWay_of_sending {s : State} (h : s.line.access = .sending) : attemptUnderWay s = s.line.stage := by
  simp only [attemptUnderWay, h]

/-- A frame carries FIRST just where it is a STATUS whose content has the marker (R20). -/
theorem carriesFirst_iff (f : TxFrame) : f.carriesFirst = true ↔ ∃ c, f = .status c ∧ c.first = true := by
  cases f <;> simp [TxFrame.carriesFirst]

/-- A frame does not carry FIRST just where every content it has as a STATUS is without the marker (R20). -/
theorem carriesFirst_eq_false_iff (f : TxFrame) : f.carriesFirst = false ↔ ∀ c, f = .status c → c.first = false := by
  cases f <;> simp [TxFrame.carriesFirst]

/-- The fall of the score judges the score and the degraded mark alone: two states that agree in both fall alike (R53). -/
theorem ScoredGood.congr {s s' t t' : State} (h : ScoredGood s t)
    (hs : s'.line.score = s.line.score ∧ s'.line.degraded = s.line.degraded)
    (ht : t'.line.score = t.line.score ∧ t'.line.degraded = t.line.degraded) : ScoredGood s' t' := by
  simpa only [ScoredGood, hs, ht] using h

/-- The line after a whole send: that of the fall of the score on the emptied stage, whatever frame was sent (R44). -/
theorem sendWhole_line (s : State) (st : Staged) :
    (s.sendWhole st).line = ((s.setLine { s.line with stage := none, access := .closed }).scoreDown).line := by
  unfold State.sendWhole
  split <;> rfl

/-- A whole send lowers the score by 1 (R44, R53). -/
theorem sendWhole_scored (s : State) (st : Staged) : ScoredGood s (s.sendWhole st) := by
  have hfall := scoreDown_good (s.setLine { s.line with stage := none, access := .closed })
  exact hfall.congr ⟨rfl, rfl⟩ (by simp [sendWhole_line])

/-- The Status Composer's FIRST marker after a whole send: cleared by a frame that carries FIRST, kept by any other (R20, R44). -/
theorem sendWhole_first (s : State) (st : Staged) :
    (s.sendWhole st).comp.first = if st.queued.frame.carriesFirst then false else s.comp.first := by
  unfold State.sendWhole
  split <;> simp

/-- A whole send empties the stage, closes the access, and beside that touches the score, degraded and the FIRST marker alone
(R44). -/
theorem sendWhole_eq (s : State) (st : Staged) :
    s.sendWhole st = (s.setLine { s.line with
      stage := none, access := .closed, score := (s.sendWhole st).line.score,
      degraded := (s.sendWhole st).line.degraded }).setComp { s.comp with first := (s.sendWhole st).comp.first } := by
  rw [sendWhole_line, sendWhole_first]
  unfold State.sendWhole
  split <;> rfl

/-- Settles O48: the attempt under way is the staged frame's, so the next state is `sendWhole`, whose score, frame and FIRST marker
are the lemmas above. -/
theorem wholeSendLeavesTheNode : Obligations.WholeSendLeavesTheNode := by
  intro s st hsending hstage
  have hstep : exec .wholeSend s = .next (s.sendWhole st) := by
    rw [exec_wholeSend, execWholeSend, attemptUnderWay_of_sending hsending, hstage]
  refine ⟨s.sendWhole st, hstep, sendWhole_scored s st, sendWhole_eq s st, fun hcarries => ?_, fun hclear => ?_⟩
  · rw [sendWhole_first, if_pos ((carriesFirst_iff _).mpr hcarries)]
  · have hnot := (carriesFirst_eq_false_iff _).mpr hclear
    simp [sendWhole_first, hnot]

end Sys2Proof.Machine

/-!
PROOFS. Recovered heat: the share evaluation (R103, R104). The sum over a view is split by class; each class's grants and the remainder
it leaves stay within the remainder it meets, and a class that is cut leaves none.
-/
namespace Sys2Proof.Machine

/-! ### Sums over the records of a class -/

/-- The sum of a quantity over the records of class c. -/
def classSum (f : Demand → Nat) (records : List Demand) (c : HeatClass) : Nat :=
  ((records.filter fun d => decide (d.cls = c)).map f).sum

/-- Tc is the class sum of the demands (R103). -/
theorem classTotal_eq_classSum (records : List Demand) (c : HeatClass) :
    classTotal records c = classSum Demand.amount records c := rfl

theorem classSum_cons (f : Demand → Nat) (d : Demand) (records : List Demand) (c : HeatClass) :
    classSum f (d :: records) c = (if d.cls = c then f d else 0) + classSum f records c := by
  by_cases h : d.cls = c <;> simp [classSum, h]

/-- Every record has one of the four classes, so a sum over all records is that of the four class sums. -/
theorem sum_map_eq_classSums (f : Demand → Nat) (records : List Demand) :
    (records.map f).sum =
      classSum f records .heave + classSum f records .dry + classSum f records .stand + classSum f records .melt := by
  induction records with
  | nil => rfl
  | cons d records ih =>
    rw [List.map_cons, List.sum_cons, ih]
    cases h : d.cls <;> simp [classSum_cons, h] <;> omega

/-- A class sum reads its quantity at records of the class alone. -/
theorem classSum_congr {f g : Demand → Nat} {c : HeatClass} (h : ∀ d : Demand, d.cls = c → f d = g d)
    (records : List Demand) : classSum f records c = classSum g records c := by
  unfold classSum
  rw [List.map_congr_left]
  intro d hd
  exact h d (of_decide_eq_true (List.mem_filter.mp hd).2)

/-- Cutting each record in proportion and rounding down gives at most Tc cut in proportion. -/
theorem classSum_floor_le (r t : Nat) (records : List Demand) (c : HeatClass) :
    classSum (fun d => d.amount * r / t) records c ≤ classTotal records c * r / t := by
  rw [classTotal_eq_classSum]
  induction records with
  | nil => exact Nat.zero_le _
  | cons d records ih =>
    rw [classSum_cons, classSum_cons]
    by_cases h : d.cls = c
    · rw [if_pos h, if_pos h, Nat.add_mul]
      exact (Nat.add_le_add_left ih _).trans Nat.div_add_div_le_add_div
    · simpa only [if_neg h, Nat.zero_add] using ih

/-- No record's demand exceeds the total of its class. -/
theorem amount_le_classTotal {records : List Demand} {d : Demand} (hd : d ∈ records) :
    d.amount ≤ classTotal records d.cls :=
  List.le_sum_of_mem (List.mem_map_of_mem (List.mem_filter.mpr ⟨hd, decide_eq_true rfl⟩))

/-! ### The remainders -/

theorem remainderAfter_of_le {r t : Nat} (h : t ≤ r) : remainderAfter r t = r - t := if_pos h

/-- A class that is cut leaves nothing (R103). -/
theorem remainderAfter_of_lt {r t : Nat} (h : r < t) : remainderAfter r t = 0 := if_neg (Nat.not_le.mpr h)

theorem remainderAfter_le (r t : Nat) : remainderAfter r t ≤ r := by
  unfold remainderAfter
  split <;> omega

/-- A later class meets at most what an earlier one leaves (R103). -/
theorem remainderBefore_le_after (offer : Nat) (records : List Demand) {c c' : HeatClass}
    (h : classField c < classField c') :
    remainderBefore offer records c' ≤ remainderAfter (remainderBefore offer records c) (classTotal records c) := by
  have hfromDry : remainderBefore offer records .stand ≤ remainderBefore offer records .dry := remainderAfter_le _ _
  have hfromStand : remainderBefore offer records .melt ≤ remainderBefore offer records .stand := remainderAfter_le _ _
  cases c' with
  | heave => exact absurd h (Nat.not_lt_zero _)
  | dry =>
    cases c with
    | heave => exact le_rfl
    | dry | stand | melt => simp [classField] at h
  | stand =>
    cases c with
    | heave => exact hfromDry
    | dry => exact le_rfl
    | stand | melt => simp [classField] at h
  | melt =>
    cases c with
    | heave => exact hfromStand.trans hfromDry
    | dry => exact hfromStand
    | stand => exact le_rfl
    | melt => simp [classField] at h

/-- Totals and remainders that satisfy the equations of R103 are the evaluation's own. -/
theorem totals_remainders_unique {offer : Nat} {records : List Demand} {T R : HeatClass → Nat}
    (hT : ∀ c, T c = ((records.filter fun d => decide (d.cls = c)).map fun d => d.amount).sum)
    (hheave : R .heave = offer) (hdry : R .dry = if T .heave ≤ R .heave then R .heave - T .heave else 0)
    (hstand : R .stand = if T .dry ≤ R .dry then R .dry - T .dry else 0)
    (hmelt : R .melt = if T .stand ≤ R .stand then R .stand - T .stand else 0) :
    T = classTotal records ∧ R = remainderBefore offer records := by
  obtain rfl : T = classTotal records := funext hT
  refine ⟨rfl, funext fun c => ?_⟩
  cases c with
  | heave => exact hheave
  | dry => rw [hdry, hheave]; rfl
  | stand => rw [hstand, hdry, hheave]; rfl
  | melt => rw [hmelt, hstand, hdry, hheave]; rfl

/-! ### The grants -/

/-- A record whose class fits the remainder is granted in full (R103). -/
theorem grantOf_of_fits {offer : Nat} {records : List Demand} {d : Demand}
    (h : classTotal records d.cls ≤ remainderBefore offer records d.cls) : grantOf offer records d = d.amount := if_pos h

/-- A record whose class exceeds the remainder is cut in proportion (R103). -/
theorem grantOf_of_cut {offer : Nat} {records : List Demand} {d : Demand}
    (h : remainderBefore offer records d.cls < classTotal records d.cls) :
    grantOf offer records d = d.amount * remainderBefore offer records d.cls / classTotal records d.cls :=
  if_neg (Nat.not_le.mpr h)

/-- No grant exceeds its demand (R104). -/
theorem grantOf_le_amount (offer : Nat) (records : List Demand) (d : Demand) : grantOf offer records d ≤ d.amount := by
  rcases Nat.lt_or_ge (remainderBefore offer records d.cls) (classTotal records d.cls) with hcut | hfits
  · rw [grantOf_of_cut hcut]
    exact Nat.div_le_of_le_mul (by rw [Nat.mul_comm]; exact Nat.mul_le_mul_right _ hcut.le)
  · exact (grantOf_of_fits hfits).le

/-- A record is short of its demand only in a class that is cut. -/
theorem cut_of_grantOf_lt_amount {offer : Nat} {records : List Demand} {d : Demand}
    (h : grantOf offer records d < d.amount) :
    remainderBefore offer records d.cls < classTotal records d.cls :=
  Nat.lt_of_not_le fun hfits => h.ne (grantOf_of_fits hfits)

/-- A class that meets no remainder receives zero, cut or not: a class that fits a remainder of 0 demands nothing. -/
theorem grantOf_of_no_remainder {offer : Nat} {records : List Demand} {d : Demand} (hd : d ∈ records)
    (h : remainderBefore offer records d.cls = 0) : grantOf offer records d = 0 := by
  rcases Nat.lt_or_ge (remainderBefore offer records d.cls) (classTotal records d.cls) with hcut | hfits
  · rw [grantOf_of_cut hcut, h, Nat.mul_zero, Nat.zero_div]
  · have hamount := amount_le_classTotal hd
    rw [grantOf_of_fits hfits]
    omega

/-- The grants of a class and the remainder it leaves stay within the remainder it meets (R103). -/
theorem classSum_grantOf_add_after_le (offer : Nat) (records : List Demand) (c : HeatClass) :
    classSum (grantOf offer records) records c +
      remainderAfter (remainderBefore offer records c) (classTotal records c) ≤ remainderBefore offer records c := by
  rcases Nat.lt_or_ge (remainderBefore offer records c) (classTotal records c) with hcut | hfits
  · calc classSum (grantOf offer records) records c +
          remainderAfter (remainderBefore offer records c) (classTotal records c)
        = classSum (fun d => d.amount * remainderBefore offer records c / classTotal records c) records c := by
          rw [remainderAfter_of_lt hcut, Nat.add_zero]
          exact classSum_congr (fun d hd => by subst hd; exact grantOf_of_cut hcut) records
      _ ≤ classTotal records c * remainderBefore offer records c / classTotal records c := classSum_floor_le _ _ _ _
      _ ≤ remainderBefore offer records c := Nat.div_le_of_le_mul le_rfl
  · have hfull : classSum (grantOf offer records) records c = classTotal records c :=
      classSum_congr (fun d hd => by subst hd; exact grantOf_of_fits hfits) records
    rw [hfull, remainderAfter_of_le hfits]
    omega

/-- The grants stay within the offer: the bounds of the four classes telescope, since each leaves what the next meets (R104). -/
theorem sum_grantOf_le_offer (offer : Nat) (records : List Demand) :
    (records.map (grantOf offer records)).sum ≤ offer := by
  have hheave := classSum_grantOf_add_after_le offer records .heave
  have hdry := classSum_grantOf_add_after_le offer records .dry
  have hstand := classSum_grantOf_add_after_le offer records .stand
  have hmelt := classSum_grantOf_add_after_le offer records .melt
  rw [sum_map_eq_classSums]
  simp only [remainderBefore] at hheave hdry hstand hmelt
  omega

/-- A record short of its demand leaves zero for every later class (R104). -/
theorem grantOf_of_earlier_short {offer : Nat} {records : List Demand} {d d' : Demand} (hd' : d' ∈ records)
    (hshort : grantOf offer records d < d.amount) (hlater : classField d.cls < classField d'.cls) :
    grantOf offer records d' = 0 := by
  have hafter := remainderBefore_le_after offer records hlater
  rw [remainderAfter_of_lt (cut_of_grantOf_lt_amount hshort)] at hafter
  exact grantOf_of_no_remainder hd' (Nat.le_zero.mp hafter)

/-- Settles O56: the totals and remainders named are the evaluation's own, so the grants are `grantOf` as defined and the three laws
are the lemmas above. -/
theorem shareEvaluationObeysItsLaws : Obligations.ShareEvaluationObeysItsLaws := by
  intro offer records T R hT hheave hdry hstand hmelt
  obtain ⟨rfl, rfl⟩ := totals_remainders_unique hT hheave hdry hstand hmelt
  exact ⟨fun d _ => rfl, fun d _ => grantOf_le_amount offer records d, sum_grantOf_le_offer offer records,
    fun _ _ _ hd' => grantOf_of_earlier_short hd'⟩

end Sys2Proof.Machine

/-!
PROOFS. The Lighting Engine: the cap step (R126, R127). What the least of a list is, which caps are counted, what the target cap is to
the counted caps, and where the slewed cap moves, said once each; the statement is assembled from them.
-/
namespace Sys2Proof.Machine

/-! ### The least of a list of caps -/

/-- The least is one of the caps. -/
theorem minOf_mem (start : Nat) (caps : List Nat) : minOf start caps ∈ start :: caps := by
  induction caps with
  | nil => exact List.mem_singleton_self start
  | cons c rest ih =>
    simp only [minOf, List.mem_cons] at ih ⊢
    rcases min_choice c (minOf start rest) with hfirst | hrest
    · exact .inr (.inl hfirst)
    · rw [hrest]
      exact ih.imp_right .inr

/-- The least is at most each of the caps. -/
theorem minOf_le_of_mem {start c : Nat} {caps : List Nat} (h : c ∈ start :: caps) : minOf start caps ≤ c := by
  induction caps with
  | nil => exact (List.mem_singleton.mp h).ge
  | cons d rest ih =>
    simp only [minOf, List.mem_cons] at ih h ⊢
    rcases h with hstart | rfl | hrest
    · exact (min_le_right _ _).trans (ih (.inl hstart))
    · exact min_le_left _ _
    · exact (min_le_right _ _).trans (ih (.inr hrest))

/-! ### The target cap -/

/-- The caps a cap step counts: the own cap of a node with ice, and the cap of each entry that has one (R126). -/
theorem mem_countedCaps {s : State} {c : Nat} :
    c ∈ countedCaps s ↔
      (bound s.cfg .iceSurface = true ∧ c = s.ice.cap) ∨ ∃ e ∈ s.peers, e.cap = some c := by
  cases h : bound s.cfg .iceSurface <;> simp [countedCaps, hasIce, h]

/-- The target cap is at most each counted cap raised to the light floor (R126). -/
theorem targetCapOf_le_of_mem {floor c : Nat} {caps : List Nat} (h : c ∈ caps) :
    targetCapOf floor caps ≤ max floor c := by
  cases caps with
  | nil => exact absurd h List.not_mem_nil
  | cons d rest => exact max_le_max_left floor (minOf_le_of_mem h)

/-- Where a cap is counted, the target cap is a counted cap raised to the light floor (R126). -/
theorem exists_mem_targetCapOf_eq {floor : Nat} {caps : List Nat} (h : caps ≠ []) :
    ∃ c ∈ caps, targetCapOf floor caps = max floor c := by
  cases caps with
  | nil => exact absurd rfl h
  | cons d rest => exact ⟨minOf d rest, minOf_mem d rest, rfl⟩

/-- With no cap counted, the target cap is 1000 (R126). -/
theorem targetCapOf_countedCaps_of_none {s : State} (hice : bound s.cfg .iceSurface = false)
    (hpeers : ∀ e ∈ s.peers, e.cap = none) : targetCapOf s.cfg.node.lightFloor (countedCaps s) = 1000 := by
  have hempty : countedCaps s = [] := by
    refine List.eq_nil_iff_forall_not_mem.mpr fun c hc => ?_
    rcases mem_countedCaps.mp hc with ⟨hbound, -⟩ | ⟨e, he, hcap⟩
    · simp [hice] at hbound
    · simp [hpeers e he] at hcap
  rw [hempty, targetCapOf]

/-- A cap is counted on a node with ice and where an entry has a cap (R126). -/
theorem countedCaps_ne_nil {s : State}
    (h : bound s.cfg .iceSurface = true ∨ ∃ e ∈ s.peers, e.cap ≠ none) : countedCaps s ≠ [] := by
  rcases h with hice | ⟨e, he, hcap⟩
  · exact List.ne_nil_of_mem (mem_countedCaps.mpr (.inl ⟨hice, rfl⟩))
  · obtain ⟨c, hc⟩ := Option.ne_none_iff_exists'.mp hcap
    exact List.ne_nil_of_mem (mem_countedCaps.mpr (.inr ⟨e, he, hc⟩))

/-- Where a cap is counted, the target cap is the own cap of a node with ice or an entry's cap, raised to the light floor (R126). -/
theorem targetCapOf_countedCaps_attained {s : State}
    (h : bound s.cfg .iceSurface = true ∨ ∃ e ∈ s.peers, e.cap ≠ none) :
    (bound s.cfg .iceSurface = true ∧
        targetCapOf s.cfg.node.lightFloor (countedCaps s) = max s.cfg.node.lightFloor s.ice.cap) ∨
      ∃ e ∈ s.peers, ∃ c, e.cap = some c ∧
        targetCapOf s.cfg.node.lightFloor (countedCaps s) = max s.cfg.node.lightFloor c := by
  obtain ⟨c, hc, htarget⟩ := exists_mem_targetCapOf_eq (floor := s.cfg.node.lightFloor) (countedCaps_ne_nil h)
  rcases mem_countedCaps.mp hc with ⟨hice, rfl⟩ | ⟨e, he, hcap⟩
  · exact .inl ⟨hice, htarget⟩
  · exact .inr ⟨e, he, c, hcap, htarget⟩

/-! ### The slewed cap -/

/-- A target below the slewed cap lowers it by 20, or to the target when that is less than 20 below (R127). -/
theorem slew_of_lt {cap target : Nat} (h : target < cap) :
    slew cap target = if cap - target < 20 then target else cap - 20 := by
  rw [slew, if_pos h]
  split <;> omega

/-- A target above the slewed cap raises it by 5, or to the target when that is less than 5 above (R127). -/
theorem slew_of_gt {cap target : Nat} (h : cap < target) :
    slew cap target = if target - cap < 5 then target else cap + 5 := by
  rw [slew, if_neg h.not_gt]
  split <;> omega

/-- A target equal to the slewed cap leaves it (R127). -/
theorem slew_self (cap : Nat) : slew cap cap = cap := by
  rw [slew, if_neg (Nat.lt_irrefl cap)]
  omega

/-! ### The cap step -/

/-- In LISTEN, RUN and MUTE the row CAP_STEP is the cap step (R127). -/
theorem exec_capStep_of_operating {s : State} (h : operatingIn s.node.state = true) :
    exec .capStep s = .next s.capStep := by
  have hexec : exec .capStep s = execCapStep s := rfl
  rw [hexec, execCapStep, takenIf, State.operating, if_pos h]

/-- Settles O43: the target named is that of the counted caps and the slewed cap is `slew` toward it; the clauses are the lemmas
above. -/
theorem capStepSlewsTowardTheTarget : Obligations.CapStepSlewsTowardTheTarget := by
  intro s hoperating
  exact ⟨targetCapOf s.cfg.node.lightFloor (countedCaps s),
    slew s.light.slewedCap (targetCapOf s.cfg.node.lightFloor (countedCaps s)),
    exec_capStep_of_operating hoperating,
    targetCapOf_countedCaps_of_none,
    fun hice => targetCapOf_le_of_mem (mem_countedCaps.mpr (.inl ⟨hice, rfl⟩)),
    fun e he c hcap => targetCapOf_le_of_mem (mem_countedCaps.mpr (.inr ⟨e, he, hcap⟩)),
    targetCapOf_countedCaps_attained, slew_of_lt, slew_of_gt,
    fun hequal => by rw [hequal, slew_self]⟩

end Sys2Proof.Machine

/-!
PROOFS. The setup port: ACK (R168, R169). What a transaction on an action window leaves for the action to judge, what an ACK answers in
each state, and what it makes of a cause, said once each; the statement is assembled from them.
-/
namespace Sys2Proof.Machine

/-! ### Transactions on an action window -/

/-- Another last result on a transaction that changed nothing but the port (R168). -/
theorem PortOnly.setResult {s t : State} {r : PortResult} (h : PortOnly s t r) (r' : PortResult) :
    PortOnly s (t.setResult r') r' := by
  obtain ⟨p, rfl, -, hpointer, hset, hwait, hidle⟩ := h
  exact ⟨{ p with lastResult := r' }, rfl, rfl, hpointer, hset, hwait, hidle⟩

/-- Code, capture and shifting of a transaction on an action window touch the port alone and keep its last result (R164, R165). -/
theorem shifted_action_portOnly (s : State) (c : Code) (n : Fin 5) (pdi : Bits) :
    PortOnly s (((s.receiveCode (bitsOfNat 8 c.toNat)).captureWindow (.action n)).shiftBits pdi).raiseSelect
      s.port.lastResult := by
  rw [shifted_window]
  exact ⟨_, rfl, rfl, rfl, rfl, rfl, rfl⟩

/-- The exact-length transaction on an action window is the action on a state that differs in the port alone (R166, R168). -/
theorem transact_action {c : Code} {n : Fin 5} (hwindow : windowOfCode c = some (.action n)) (s : State) :
    ∃ t, PortOnly s t s.port.lastResult ∧ s.transact c actionBits = t.applyAction n := by
  refine ⟨_, shifted_action_portOnly s c n actionBits, ?_⟩
  rw [State.transact, hwindow]
  rfl

/-! ### ACK -/

/-- Where the port is ready, the row ACK is the action ACK on a state that differs in the port alone (R168). -/
theorem exec_ack {s : State} (hready : portReady s = true) :
    ∃ t, PortOnly s t s.port.lastResult ∧ exec .ack s = .next t.actAck := by
  obtain ⟨t, hport, htransact⟩ := transact_action (c := codeOf 15 2) (n := 2) rfl s
  have hexec : exec .ack s = execAck s := rfl
  refine ⟨t, hport, ?_⟩
  rw [hexec, execAck, takenIf, if_pos hready, htransact, State.applyAction]

/-- An ACK without a captured set answers NO_CAPTURE (R169). -/
theorem actAck_of_none {s : State} (hstate : s.node.state ≠ .starting) (hset : s.port.capturedSet = none) :
    s.actAck = s.setResult .noCapture := by
  cases hnode : s.node.state with
  | starting => exact absurd hnode hstate
  | unset | listen | run | mute _ => simp only [State.actAck, hnode, hset]

/-- An ACK with a captured set acknowledges it and answers APPLIED (R169). -/
theorem actAck_of_some {s : State} {set : Vector (Option Nat) 12} (hstate : s.node.state ≠ .starting)
    (hset : s.port.capturedSet = some set) : s.actAck = (s.acknowledge set).setResult .applied := by
  cases hnode : s.node.state with
  | starting => exact absurd hnode hstate
  | unset | listen | run | mute _ => simp only [State.actAck, hnode, hset]

/-- A change of the node and one of the port commute. -/
theorem State.setPort_setNode (s : State) (p : SetupPort) (x : NodeControl) :
    (s.setPort p).setNode x = (s.setNode x).setPort p := rfl

/-- The acknowledgement after a change of the port alone sets the causes, and the port from the changed one (R169). -/
theorem acknowledge_setPort_setResult (s : State) (p : SetupPort) (set : Vector (Option Nat) 12) (r : PortResult) :
    ((s.setPort p).acknowledge set).setResult r =
      (s.setNode { s.node with causes := mapAt s.node.causes fun i e => e.acked set[i] }).setPort
        { p with capturedSet := none, lastResult := r } := by
  simp only [State.setResult, State.acknowledge, State.setPort_node, State.setPort_port, State.setPort_setNode,
    State.setPort_setPort]

/-- An acknowledged cause keeps its count (R169). -/
@[simp] theorem CauseEntry.acked_count (e : CauseEntry) (captured : Option Nat) : (e.acked captured).count = e.count := by
  unfold CauseEntry.acked
  split <;> rfl

/-- An acknowledged cause loses its flag where its count is the captured one (R169). -/
@[simp] theorem CauseEntry.acked_flag (e : CauseEntry) (captured : Option Nat) :
    (e.acked captured).flag = if captured = some e.count then false else e.flag := by
  unfold CauseEntry.acked
  split <;> rfl

/-- Settles O21: the action meets the state as it was but for the port, so without a set only the result changes, and with one every
cause becomes `CauseEntry.acked`. -/
theorem ackClearsUnchangedCauses : Obligations.AckClearsUnchangedCauses := by
  intro s hready hstate
  obtain ⟨t, hport, hexec⟩ := exec_ack hready
  obtain ⟨p, rfl, -, hpointer, hset, -, -⟩ := id hport
  refine ⟨fun hnone => ⟨_, hexec, ?_⟩, fun set hsome => ?_⟩
  · rw [actAck_of_none (s := s.setPort p) hstate (hset.trans hnone)]
    exact hport.setResult .noCapture
  · rw [actAck_of_some (s := s.setPort p) hstate (hset.trans hsome), acknowledge_setPort_setResult] at hexec
    refine ⟨_, _, hexec, fun i => ?_, rfl, rfl, hpointer⟩
    rw [mapAt_getElem]
    exact ⟨CauseEntry.acked_count _ _, CauseEntry.acked_flag _ _⟩

end Sys2Proof.Machine

/-!
PROOFS. What one command can do. `Event` lists, for every row, the operation it performs with the condition under which it is an event;
`event_of_exec` says that nothing else happens. The whole-block statements and the invariants are derived from it.
-/
namespace Sys2Proof.Machine

/-! ### Answers -/

/-- A row that is an event answers its operation. -/
theorem takenIf_of_true {b : Bool} {s t : State} (h : b = true) : takenIf b s t = .next t := by
  rw [takenIf, if_pos h]

/-- A row that is no event leaves the state (log entry 1). -/
theorem takenIf_of_false {b : Bool} {s t : State} (h : b = false) : takenIf b s t = .next s := by
  rw [takenIf, h]
  rfl

/-- A guarded row answers the state itself, or its operation where the guard holds. -/
theorem takenIf_cases {b : Bool} {s u t : State} (h : takenIf b s u = .next t) : t = s ∨ b = true ∧ t = u := by
  cases b with
  | false => exact .inl (Host.Outcome.next.inj ((takenIf_of_false rfl).symm.trans h)).symm
  | true => exact .inr ⟨rfl, (Host.Outcome.next.inj ((takenIf_of_true rfl).symm.trans h)).symm⟩

/-! ### The rows that share an operation -/

/-- The rows of a zero measurement (R5). -/
def isZeroRow : Instr → Bool
  | .zeroReferenceConversion _ _ => true
  | .zeroMeasurementComplete _ _ => true
  | _ => false

/-- The rows of a period expiry (R17, R18, R33). -/
def isPeriodRow : Instr → Bool
  | .statusPeriodExpiry => true
  | .phaseSplit _ => true
  | .enterRun => true
  | _ => false

/-- The rows of a valid frame (R52, R55). -/
def isFrameRow : Instr → Bool
  | .statusReceived _ => true
  | .fogReceived _ => true
  | .cueReceived _ => true
  | .replayReceived _ => true
  | .recallReceived _ => true
  | .validFrameOwnAddress _ => true
  | _ => false

/-- The rows that can write configuration (R167). -/
def isWriteRow : Instr → Bool
  | .configurationWrite _ _ => true
  | .sceneWrite _ => true
  | _ => false

/-- The state with another port, another reading count and other levels held at the pins: every block of the node but the port stands. -/
def State.touchPort (s : State) (p : SetupPort) (b : Board) (k : Nat) : State :=
  ((s.setPins { s.pins with board := b }).setPort p).setFreeCount k

/-- What command c makes of state s: one case for each operation, with the condition under which it is taken. -/
inductive Event (c : Instr) (s : State) : State → Prop
  | stands : Event c s s
  | powerOn (psel : SelectLevel) (h : c = .powerOn psel) : Event c s ((s.powerOnValues .power).waitForSelect psel)
  | pinAssertion (h : c = .resetPinAssertion) : Event c s ((s.powerOnValues .pin).setResetHeld true)
  | pinRelease (p : SetupPort) : Event c s ((s.setResetHeld false).setPort p)
  | port (p : SetupPort) (b : Board) (k : Nat) : Event c s (s.touchPort p b k)
  | write (p : SetupPort) (w : Window) (d : Nat) (cfg : Configuration) (clamped : Bool) (hc : isWriteRow c = true)
      (hunset : s.node.state = .unset) (hw : writeWindow w d s.cfg = some (cfg, clamped)) :
      Event c s ((s.setCfg cfg).setPort p)
  | startFault (f : StartFault) (i : Nat) (p : SetupPort) : Event c s ((s.setStartFault f i).setPort p)
  | start (p q : SetupPort) (hc : c = .start) (hunset : s.node.state = .unset) :
      Event c s ((s.setPort p).startNode.setPort q)
  | restart (p q : SetupPort) (hc : c = .restart) (h : s.operating = true) :
      Event c s ((s.setPort p).restartNode.setPort q)
  | ack (set : Vector (Option Nat) 12) (p : SetupPort) :
      Event c s ((s.setNode { s.node with causes := mapAt s.node.causes fun i e => e.acked set[i] }).setPort p)
  | pulse (n : Fin 2) (p q : SetupPort) (h : s.operating = true) : Event c s (((s.setPort p).originate n).setPort q)
  | zeroConvert (n : Fin 12) (raw : Counts) (hc : isZeroRow c = true) (h : zeroConversionDue n s = true) :
      Event c s (s.zeroConvert n raw)
  | scan (h : s.operating = true) : Event c s (s.setMeas { s.meas with scanSchedule := usedChannels s.cfg })
  | convert (n : Fin 12) (raw : Counts) (h : conversionDue n s = true) : Event c s (s.convertChannel n raw)
  | expirePeriod (hc : isPeriodRow c = true) (h : s.operating = true) : Event c s s.expirePeriod
  | agePeers (h : s.operating = true) : Event c s s.agePeerTable
  | receive (f : Frame) (hc : isFrameRow c = true) (hv : f.valid = true) (h : s.operating = true)
      (hidle : s.line.access ≠ .sending) : Event c s (s.receiveValid f)
  | invalid (h : canReceive s = true) : Event c s (s.scoreUp.setAccess .closed)
  | access (a : Access) (ha : a ≠ .sending) (h : s.operating = true) (hidle : s.line.access ≠ .sending) :
      Event c s (s.setAccess a)
  | slotStart (k : Nat) (h : s.operating = true) (hidle : s.line.access = .idle k) : Event c s (s.startSlot k)
  | collision (st : Staged) (hs : s.line.access = .sending) (hst : s.line.stage = some st) : Event c s (s.collide st)
  | disturbance (st : Staged) (hs : s.line.access = .sending) (hst : s.line.stage = some st) : Event c s (s.disturb st)
  | wholeSend (st : Staged) (hs : s.line.access = .sending) (hst : s.line.stage = some st) : Event c s (s.sendWhole st)
  | stuckLine (hc : c = .stuckLine) (h : s.operating = true) : Event c s s.lineStuck
  | stuckLineEnd (hc : c = .stuckLineEnd) (h : s.node.state = .mute .stuck) (hidle : lineIdle s = true) :
      Event c s s.endStuckLine
  | ice (h : s.operating = true) : Event c s s.evaluateIce
  | fog (h : s.operating = true) : Event c s s.evaluateFog
  | backup (h : s.operating = true) : Event c s s.judgeBackups
  | timerRunsOut (n : Fin 4) (h : s.operating = true) :
      Event c s (s.setHeat { s.heat with loops := setAt s.heat.loops n (s.heat.loops[n]).timerRunsOut })
  | fadeStep (h : s.operating = true) : Event c s s.fadeStep
  | capStep (h : s.operating = true) : Event c s s.capStep
  | sample (b : Board) (h : s.operating = true) : Event c s (s.sampleInputs b)
  | periodStart (g : GeneratorId) (h : (generatorAt s g).periodCanEnd = true) :
      Event c s (s.setGenerator g (generatorAt s g).periodStart)
  | reachLevel (g : GeneratorId) (h : (generatorAt s g).levelAhead = true) :
      Event c s (s.setGenerator g (generatorAt s g).reachLevel)
  | strobe (n : Fin 8) (h : (s.gens.dimmers[n]).strobe.active = true) :
      Event c s (s.setStrobe n (s.gens.dimmers[n]).strobe.expire)

/-- A guarded row: the event of its operation, taken under the guard. -/
theorem Event.of_takenIf {c : Instr} {s u t : State} {b : Bool} (h : takenIf b s u = .next t)
    (hu : b = true → Event c s u) : Event c s t := by
  rcases takenIf_cases h with rfl | ⟨hb, rfl⟩
  · exact .stands
  · exact hu hb

/-! ### Transactions -/

/-- What is left of the state where only the port changed is the state with another port. -/
theorem Event.of_setPort (c : Instr) (s : State) (p : SetupPort) : Event c s (s.setPort p) :=
  .port p s.pins.board s.freeCount

/-- A state that is the old one but for the port, the readings and the levels held. -/
theorem Event.of_touchPort {c : Instr} {s t : State} (h : t = s.touchPort t.port t.pins.board t.freeCount) :
    Event c s t := h ▸ .port _ _ _

/-- A transaction under an unknown code touches the port alone (R163). -/
theorem event_passThrough (i : Instr) (s : State) (c : Code) (pdi : Bits) : Event i s (s.passThrough c pdi) := by
  rw [passThrough_eq]
  exact .of_setPort _ _ _

/-- The end of a transaction on a read-only window sets the result alone (R166). -/
theorem endTransaction_readOnly {w : Window} (hw : w.kind = .readOnly) (s : State) (pdi : Bits) :
    s.endTransaction w pdi = s.setResult .captured := by
  cases w with
  | ident | snap _ | peer _ => rfl
  | _ => cases hw

/-- The end of a transaction of exact length on a configuration window other than SCENE is the write (R166, R167). -/
theorem endTransaction_write {w : Window} (hw : w.kind = .configuration) (hs : w ≠ .scene) {pdi : Bits}
    (hl : exactLength w pdi = true) (s : State) :
    s.endTransaction w pdi = s.applyWrite w (natOfBits (dataBits pdi)) := by
  cases w with
  | ident | snap _ | peer _ | action _ => cases hw
  | scene => exact absurd rfl hs
  | _ => simp only [State.endTransaction, hl, if_true]

/-- The end of a transaction on SCENE (R165, R166). -/
theorem endTransaction_scene (s : State) (pdi : Bits) :
    s.endTransaction .scene pdi = (if exactLength .scene pdi then s.applyWrite .scene (natOfBits (dataBits pdi))
      else s.setResult .discardedLength).setPointer pdi := rfl

/-- The end of a transaction of wrong length on a window other than SCENE and the read-only ones discards it (R166). -/
theorem endTransaction_wrongLength {w : Window} (hw : w.kind ≠ .readOnly) (hs : w ≠ .scene) {pdi : Bits}
    (hl : exactLength w pdi = false) (s : State) : s.endTransaction w pdi = s.setResult .discardedLength := by
  cases w with
  | ident | snap _ | peer _ => exact absurd rfl hw
  | scene => exact absurd rfl hs
  | _ => simp [State.endTransaction, hl]

/-- Outside UNSET a write is refused (R167). -/
theorem applyWrite_of_not_unset {s : State} (h : s.node.state ≠ .unset) (w : Window) (d : Nat) :
    s.applyWrite w d = s.setResult .refusedState := by
  rw [State.applyWrite, if_pos h]

/-- In UNSET a write with an unlisted value is refused (R167). -/
theorem applyWrite_of_none {s : State} (h : s.node.state = .unset) {w : Window} {d : Nat} (hw : writeWindow w d s.cfg = none) :
    s.applyWrite w d = s.setResult .refusedValue := by
  simp only [State.applyWrite, h, ne_eq, not_true_eq_false, if_false, hw]

/-- In UNSET a write of listed values is applied or clamped (R167). -/
theorem applyWrite_of_some {s : State} (h : s.node.state = .unset) {w : Window} {d : Nat} {cfg : Configuration}
    {clamped : Bool} (hw : writeWindow w d s.cfg = some (cfg, clamped)) :
    s.applyWrite w d = (s.setCfg cfg).setResult (if clamped then .clamped else .applied) := by
  simp only [State.applyWrite, h, ne_eq, not_true_eq_false, if_false, hw]

/-- A write touches the port, or in UNSET the port and the configuration its window's write gives (R167). -/
theorem applyWrite_cases (s : State) (w : Window) (d : Nat) :
    (∃ p, s.applyWrite w d = s.setPort p) ∨
      ∃ cfg clamped p, s.node.state = .unset ∧ writeWindow w d s.cfg = some (cfg, clamped) ∧
        s.applyWrite w d = (s.setCfg cfg).setPort p := by
  by_cases hunset : s.node.state = .unset
  · cases hw : writeWindow w d s.cfg with
    | none => exact .inl ⟨_, applyWrite_of_none hunset hw⟩
    | some x => exact .inr ⟨x.1, x.2, _, hunset, rfl, applyWrite_of_some hunset hw⟩
  · exact .inl ⟨_, applyWrite_of_not_unset hunset w d⟩

/-- A transaction on a window is its end on a state that differs in the port and the count of readings (R164, R165). -/
theorem transactWindow_eq (s : State) (c : Code) (w : Window) (pdi : Bits) :
    ∃ p : SetupPort, p.state = .portIdle ∧ p.waitHigh = s.port.waitHigh ∧ p.lastResult = s.port.lastResult ∧
      p.scenePointer = s.port.scenePointer ∧
      s.transactWindow c w pdi = (s.touchPort p s.pins.board (s.freeCount + (takesReading w).toNat)).endTransaction w pdi := by
  refine ⟨_, ?_, ?_, ?_, ?_, congrArg (fun u => State.endTransaction u w pdi) (shifted_window s c w pdi)⟩ <;> rfl

/-- The transaction on a known window. -/
theorem transact_of_window {c : Code} {w : Window} (h : windowOfCode c = some w) (s : State) (pdi : Bits) :
    s.transact c pdi = s.transactWindow c w pdi := by
  simp only [State.transact, h]

/-- The transaction under an unknown code. -/
theorem transact_of_none {c : Code} (h : windowOfCode c = none) (s : State) (pdi : Bits) :
    s.transact c pdi = s.passThrough c pdi := by
  simp only [State.transact, h]

/-- A transaction on a read-only window touches the port, the readings and nothing of the node (R164, R166). -/
theorem event_transact_readOnly (i : Instr) {c : Code} {w : Window} (hc : windowOfCode c = some w) (hw : w.kind = .readOnly)
    (s : State) (b : Board) (pdi : Bits) : Event i s ((s.setPins { s.pins with board := b }).transact c pdi) := by
  obtain ⟨p, -, -, -, -, h⟩ := transactWindow_eq (s.setPins { s.pins with board := b }) c w pdi
  rw [transact_of_window hc, h, endTransaction_readOnly hw]
  exact .port _ b _

/-- A transaction of wrong length on a window that is not read-only touches the port alone (R166). -/
theorem event_transact_wrongLength (i : Instr) {c : Code} {w : Window} (hc : windowOfCode c = some w)
    (hw : w.kind ≠ .readOnly) {pdi : Bits} (hl : exactLength w pdi = false) (s : State) :
    Event i s (s.transact c pdi) := by
  obtain ⟨p, -, -, -, -, h⟩ := transactWindow_eq s c w pdi
  rw [transact_of_window hc, h]
  by_cases hs : w = .scene
  · subst hs
    rw [endTransaction_scene, if_neg (by rw [hl]; decide)]
    exact .of_touchPort rfl
  · rw [endTransaction_wrongLength hw hs hl]
    exact .port _ _ _

/-- No configuration or action window's capture takes a reading. -/
theorem takesReading_of_not_readOnly {w : Window} (hw : w.kind ≠ .readOnly) : takesReading w = false := by
  cases w with
  | ident | snap _ | peer _ => exact absurd rfl hw
  | _ => rfl

/-- A write row's transaction of exact length on a configuration window touches the port, or writes the configuration in UNSET (R167). -/
theorem event_transact_write {i : Instr} (hi : isWriteRow i = true) {c : Code} {w : Window} (hc : windowOfCode c = some w)
    (hw : w.kind = .configuration) {pdi : Bits} (hl : exactLength w pdi = true) (s : State) :
    Event i s (s.transact c pdi) := by
  obtain ⟨p, -, -, -, -, h⟩ := transactWindow_eq s c w pdi
  have hread : w.kind ≠ .readOnly := by rw [hw]; decide
  rw [takesReading_of_not_readOnly hread] at h
  have hwrite : ∀ u : State, u = s.setPort p → ∀ q : State → State, (∀ v, ∃ r, q v = v.setPort r) →
      Event i s (q (u.applyWrite w (natOfBits (dataBits pdi)))) := by
    rintro u rfl q hq
    obtain ⟨r, hr⟩ := hq ((s.setPort p).applyWrite w (natOfBits (dataBits pdi)))
    rw [hr]
    rcases applyWrite_cases (s.setPort p) w (natOfBits (dataBits pdi)) with ⟨p', e⟩ | ⟨cfg, clamped, p', hunset, hcfg, e⟩
    · rw [e]
      exact .of_setPort _ _ _
    · rw [e]
      exact .write _ w _ cfg clamped hi hunset hcfg
  rw [transact_of_window hc, h]
  by_cases hs : w = .scene
  · subst hs
    rw [endTransaction_scene, if_pos hl]
    exact hwrite _ rfl (fun v => v.setPointer pdi) fun v => ⟨_, rfl⟩
  · rw [endTransaction_write hw hs hl]
    exact hwrite _ rfl (fun v => v) fun v => ⟨v.port, rfl⟩

/-! ### Actions -/

/-- A START refused outside UNSET (R168). -/
theorem actStart_of_not_unset {s : State} (h : s.node.state ≠ .unset) : s.actStart = s.setResult .refusedState := by
  cases hn : s.node.state with
  | unset => exact absurd hn h
  | starting | listen | run | mute _ => simp only [State.actStart, hn]

/-- A START whose checks fail records the fault (R155). -/
theorem actStart_of_fault {s : State} (h : s.node.state = .unset) {k : StartCheck} (hk : startChecks s.cfg = some k) :
    s.actStart = (s.setStartFault k.fault k.index).setResult .refusedValue := by
  simp only [State.actStart, h, State.takeStart, hk, Option.isSome_some, if_true]

/-- A START whose checks pass starts the node (R155). -/
theorem actStart_of_pass {s : State} (h : s.node.state = .unset) (hk : startChecks s.cfg = none) :
    s.actStart = s.startNode.setResult .applied := by
  simp only [State.actStart, h, State.takeStart, hk, Option.isSome_none, Bool.false_eq_true, if_false]

/-- A RESTART in UNSET is refused (R168). -/
theorem actRestart_of_unset {s : State} (h : s.node.state = .unset) : s.actRestart = s.setResult .refusedState := by
  simp only [State.actRestart, h]

/-- A RESTART in STARTING finds the node busy (R168). -/
theorem actRestart_of_starting {s : State} (h : s.node.state = .starting) : s.actRestart = s.setResult .busy := by
  simp only [State.actRestart, h]

/-- A RESTART in LISTEN, RUN or MUTE restarts the node (R158). -/
theorem actRestart_of_operating {s : State} (h : s.operating = true) : s.actRestart = s.restartNode.setResult .applied := by
  cases hn : s.node.state with
  | unset | starting => simp [State.operating, operatingIn, hn] at h
  | listen | run | mute _ => simp only [State.actRestart, hn]

/-- A PULSE in UNSET is refused (R168). -/
theorem actPulse_of_unset {s : State} (h : s.node.state = .unset) (n : Fin 2) : s.actPulse n = s.setResult .refusedState := by
  simp only [State.actPulse, h]

/-- A PULSE in STARTING finds the node busy (R168). -/
theorem actPulse_of_starting {s : State} (h : s.node.state = .starting) (n : Fin 2) : s.actPulse n = s.setResult .busy := by
  simp only [State.actPulse, h]

/-- A PULSE in LISTEN, RUN or MUTE originates the input's cue (R149). -/
theorem actPulse_of_operating {s : State} (h : s.operating = true) (n : Fin 2) :
    s.actPulse n = (s.originate n).setResult .applied := by
  cases hn : s.node.state with
  | unset | starting => simp [State.operating, operatingIn, hn] at h
  | listen | run | mute _ => simp only [State.actPulse, hn]

/-- An ACK in STARTING is refused (R168). -/
theorem actAck_of_starting {s : State} (h : s.node.state = .starting) : s.actAck = s.setResult .refusedState := by
  simp only [State.actAck, h]

/-- A node is in UNSET, in STARTING, or in LISTEN, RUN or MUTE. -/
theorem unset_or_starting_or_operating (s : State) :
    s.node.state = .unset ∨ s.node.state = .starting ∨ s.operating = true := by
  cases hn : s.node.state <;> simp [State.operating, operatingIn, hn]

/-- The exact-length transaction on an action window is the action on the state with another port (R168). -/
theorem transact_action_setPort {c : Code} {n : Fin 5} (hc : windowOfCode c = some (.action n)) (s : State) :
    ∃ p, p.state = .portIdle ∧ p.waitHigh = s.port.waitHigh ∧ p.lastResult = s.port.lastResult ∧
      p.scenePointer = s.port.scenePointer ∧ p.capturedSet = s.port.capturedSet ∧
      s.transact c actionBits = (s.setPort p).applyAction n := by
  obtain ⟨t, ⟨p, rfl, hr, hp, hset, hwait, hidle⟩, h⟩ := transact_action hc s
  exact ⟨p, hidle, hwait, hr, hp, hset, h⟩

theorem event_start (s : State) : Event .start s (s.transact (codeOf 15 0) actionBits) := by
  obtain ⟨p, -, -, -, -, -, h⟩ := transact_action_setPort (c := codeOf 15 0) (n := 0) rfl s
  rw [h, State.applyAction]
  by_cases hunset : s.node.state = .unset
  · cases hk : startChecks s.cfg with
    | none =>
      rw [actStart_of_pass (s := s.setPort p) hunset hk]
      exact .start p _ rfl hunset
    | some k =>
      rw [actStart_of_fault (s := s.setPort p) hunset hk]
      exact .startFault _ _ _
  · rw [actStart_of_not_unset (s := s.setPort p) hunset]
    exact .of_setPort _ _ _

theorem event_restart (s : State) : Event .restart s (s.transact (codeOf 15 1) actionBits) := by
  obtain ⟨p, -, -, -, -, -, h⟩ := transact_action_setPort (c := codeOf 15 1) (n := 1) rfl s
  rw [h, State.applyAction]
  rcases unset_or_starting_or_operating s with hn | hn | hop
  · rw [actRestart_of_unset (s := s.setPort p) hn]
    exact .of_setPort _ _ _
  · rw [actRestart_of_starting (s := s.setPort p) hn]
    exact .of_setPort _ _ _
  · rw [actRestart_of_operating (s := s.setPort p) hop]
    exact .restart p _ rfl hop

theorem event_pulse (c : Instr) (n : Fin 2) (s : State) : Event c s (s.transact (codeOf 15 (3 + n.val)) actionBits) := by
  have hwindow : windowOfCode (codeOf 15 (3 + n.val)) = some (.action ⟨3 + n.val, by omega⟩) := by
    fin_cases n <;> rfl
  obtain ⟨p, -, -, -, -, -, h⟩ := transact_action_setPort hwindow s
  have hact : (s.setPort p).applyAction ⟨3 + n.val, by omega⟩ = (s.setPort p).actPulse n := by
    fin_cases n <;> rfl
  rw [h, hact]
  rcases unset_or_starting_or_operating s with hn | hn | hop
  · rw [actPulse_of_unset (s := s.setPort p) hn]
    exact .of_setPort _ _ _
  · rw [actPulse_of_starting (s := s.setPort p) hn]
    exact .of_setPort _ _ _
  · rw [actPulse_of_operating (s := s.setPort p) hop]
    exact .pulse n p _ hop

theorem event_ack (c : Instr) (s : State) : Event c s (s.transact (codeOf 15 2) actionBits) := by
  obtain ⟨p, -, -, -, -, -, h⟩ := transact_action_setPort (c := codeOf 15 2) (n := 2) rfl s
  rw [h, State.applyAction]
  by_cases hn : s.node.state = .starting
  · rw [actAck_of_starting (s := s.setPort p) hn]
    exact .of_setPort _ _ _
  · cases hset : p.capturedSet with
    | none =>
      rw [actAck_of_none (s := s.setPort p) hn hset]
      exact .of_setPort _ _ _
    | some set =>
      rw [actAck_of_some (s := s.setPort p) hn hset, acknowledge_setPort_setResult]
      exact .ack set _

/-! ### The line -/

/-- What can be received is received in LISTEN, RUN or MUTE while no own attempt is under way (R50). -/
theorem canReceive_spec {s : State} (h : canReceive s = true) : s.operating = true ∧ s.line.access ≠ .sending := by
  unfold canReceive at h
  cases ha : s.line.access <;> simp_all

/-- The rest of a disturbed transmission is read in LISTEN, RUN or MUTE with no own attempt under way (R43). -/
theorem readsDisturbed_spec {s : State} (h : readsDisturbed s = true) : s.operating = true ∧ s.line.access ≠ .sending := by
  unfold readsDisturbed at h
  simp only [Bool.and_eq_true, decide_eq_true_eq] at h
  exact ⟨h.1, by rw [h.2]; decide⟩

/-- An idle line has no own attempt under way. -/
theorem lineIdle_spec {s : State} (h : lineIdle s = true) : ∃ k, s.line.access = .idle k := by
  unfold lineIdle at h
  cases ha : s.line.access <;> simp_all

/-- A frame row takes a valid frame in LISTEN, RUN or MUTE while no own attempt is under way. -/
theorem receivesKind_spec {s : State} {f : Frame} {k : FrameKind} (h : receivesKind s f k = true) :
    f.valid = true ∧ s.operating = true ∧ s.line.access ≠ .sending := by
  simp only [receivesKind, Bool.and_eq_true, Bool.or_eq_true] at h
  obtain ⟨⟨hv, -⟩, hc | ⟨hd, -⟩⟩ := h
  · exact ⟨hv, canReceive_spec hc⟩
  · exact ⟨hv, readsDisturbed_spec hd⟩

/-- The row of a frame's kind. -/
theorem event_receivesKind {c : Instr} (hc : isFrameRow c = true) {s : State} {f : Frame} {k : FrameKind}
    (h : receivesKind s f k = true) : Event c s (s.receiveValid f) := by
  obtain ⟨hv, hop, hidle⟩ := receivesKind_spec h
  exact .receive f hc hv hop hidle

/-- The attempt under way is that of the staged frame while the node sends (R48). -/
theorem attemptUnderWay_spec {s : State} {st : Staged} (h : attemptUnderWay s = some st) :
    s.line.access = .sending ∧ s.line.stage = some st := by
  unfold attemptUnderWay at h
  cases ha : s.line.access <;> simp_all

/-! ### Every command -/

/-- Every command's next state is one of the cases of `Event`. -/
theorem event_of_exec {c : Instr} {s t : State} (h : exec c s = .next t) : Event c s t := by
  cases c with
  | powerOn psel =>
    cases h
    exact .powerOn psel rfl
  | resetPinAssertion =>
    cases h
    exact .pinAssertion rfl
  | resetPinRelease psel => exact .of_takenIf h fun _ => .pinRelease _
  | start => exact .of_takenIf h fun _ => event_start s
  | restart => exact .of_takenIf h fun _ => event_restart s
  | ack => exact .of_takenIf h fun _ => event_ack _ s
  | pulse n => exact .of_takenIf h fun _ => event_pulse _ n s
  | causesSnapshot pdi =>
    exact .of_takenIf h fun _ => event_transact_readOnly _ (c := codeOf 12 6) (w := .snap 6) rfl rfl s s.pins.board pdi
  | configurationWrite code pdi =>
    refine .of_takenIf h fun hb => ?_
    simp only [Bool.and_eq_true, isExactWrite, Option.any_eq_true, decide_eq_true_eq] at hb
    obtain ⟨-, w, hw, hkind, hlength⟩ := hb
    exact event_transact_write rfl hw hkind hlength s
  | sceneWrite pdi =>
    refine .of_takenIf h fun _ => ?_
    cases hl : exactLength .scene pdi with
    | true => exact event_transact_write rfl (c := codeOf 8 0) (w := .scene) rfl rfl hl s
    | false => exact event_transact_wrongLength _ (c := codeOf 8 0) (w := .scene) rfl (by decide) hl s
  | unknownCode code pdi =>
    refine .of_takenIf h fun hb => ?_
    simp only [Bool.and_eq_true, Option.isNone_iff_eq_none] at hb
    rw [transact_of_none hb.2]
    exact event_passThrough _ s code pdi
  | discardedLength bits =>
    by_cases hl : bits.length < 8
    · have hexec : exec (.discardedLength bits) s = takenIf (portReady s) s (s.endInCode bits) := if_pos hl
      refine .of_takenIf (hexec.symm.trans h) fun _ => ?_
      rw [endInCode_eq]
      exact .of_setPort _ _ _
    · have hexec : exec (.discardedLength bits) s =
          takenIf (portReady s && isWrongLength (codeOfBits bits) (bits.drop 8)) s
            (s.transact (codeOfBits bits) (bits.drop 8)) := if_neg hl
      refine .of_takenIf (hexec.symm.trans h) fun hb => ?_
      simp only [Bool.and_eq_true, isWrongLength, Option.any_eq_true, decide_eq_true_eq, Bool.not_eq_true'] at hb
      obtain ⟨-, w, hw, hkind, hlength⟩ := hb
      exact event_transact_wrongLength _ hw hkind hlength s
  | zeroReferenceConversion n raw => exact .of_takenIf h fun hb => .zeroConvert n raw rfl hb
  | zeroMeasurementComplete n raw =>
    exact .of_takenIf h fun hb => .zeroConvert n raw rfl (Bool.and_eq_true_iff.mp hb).1
  | scan => exact .of_takenIf h fun hb => .scan (Bool.and_eq_true_iff.mp hb).1
  | channelConversion n raw => exact .of_takenIf h fun hb => .convert n raw hb
  | sensorFailed n raw => exact .of_takenIf h fun hb => .convert n raw (Bool.and_eq_true_iff.mp hb).1
  | channelRecovery n raw => exact .of_takenIf h fun hb => .convert n raw (Bool.and_eq_true_iff.mp hb).1
  | statusPeriodExpiry => exact .of_takenIf h fun hb => .expirePeriod rfl hb
  | phaseSplit a => exact .of_takenIf h fun hb => .expirePeriod rfl (Bool.and_eq_true_iff.mp hb).1
  | enterRun =>
    refine .of_takenIf h fun hb => .expirePeriod rfl ?_
    have hlisten : s.node.state = .listen := of_decide_eq_true (Bool.and_eq_true_iff.mp hb).1
    rw [State.operating, hlisten]
    rfl
  | ageingStep => exact .of_takenIf h .agePeers
  | entryStale a => exact .of_takenIf h fun hb => .agePeers (Bool.and_eq_true_iff.mp hb).1
  | entryLost a => exact .of_takenIf h fun hb => .agePeers (Bool.and_eq_true_iff.mp hb).1
  | statusReceived f => exact .of_takenIf h fun hb => event_receivesKind rfl hb
  | fogReceived f => exact .of_takenIf h fun hb => event_receivesKind rfl hb
  | cueReceived f => exact .of_takenIf h fun hb => event_receivesKind rfl (Bool.and_eq_true_iff.mp hb).1
  | replayReceived f => exact .of_takenIf h fun hb => event_receivesKind rfl (Bool.and_eq_true_iff.mp hb).1
  | recallReceived f => exact .of_takenIf h fun hb => event_receivesKind rfl hb
  | validFrameOwnAddress f =>
    refine .of_takenIf h fun hb => ?_
    simp only [Bool.and_eq_true, Bool.or_eq_true] at hb
    obtain ⟨⟨hv, -⟩, hr⟩ := hb
    obtain ⟨hop, hidle⟩ := hr.elim canReceive_spec readsDisturbed_spec
    exact .receive f rfl hv hop hidle
  | invalidFrame r =>
    by_cases hc : canReceive s = true
    · have hexec : exec (.invalidFrame r) s = takenIf (badReception r) s (s.scoreUp.setAccess .closed) := if_pos hc
      exact .of_takenIf (hexec.symm.trans h) fun _ => .invalid hc
    · have hexec : exec (.invalidFrame r) s = takenIf (badReception r && readsDisturbed s) s (s.setAccess .closed) :=
        if_neg hc
      refine .of_takenIf (hexec.symm.trans h) fun hb => ?_
      obtain ⟨hop, hidle⟩ := readsDisturbed_spec (Bool.and_eq_true_iff.mp hb).2
      exact .access _ nofun hop hidle
  | fragment r =>
    refine .of_takenIf h fun hb => ?_
    obtain ⟨hop, hidle⟩ := canReceive_spec (Bool.and_eq_true_iff.mp hb).1
    exact .access _ nofun hop hidle
  | release =>
    refine .of_takenIf h fun hb => ?_
    simp only [Bool.and_eq_true, decide_eq_true_eq] at hb
    exact .access _ nofun hb.1 hb.2
  | defer =>
    refine .of_takenIf h fun hb => ?_
    obtain ⟨hop, hline⟩ := Bool.and_eq_true_iff.mp hb
    obtain ⟨k, hk⟩ := lineIdle_spec hline
    exact .access _ nofun hop (by rw [hk]; nofun)
  | slotStart =>
    cases ha : s.line.access with
    | idle k =>
      have hexec : exec .slotStart s = takenIf s.operating s (s.startSlot k) := by
        simp only [exec, execSlotStart, ha]
      exact .of_takenIf (hexec.symm.trans h) fun hop => .slotStart k hop ha
    | noRelease | receiving | closed | sending | disturbed =>
      have hexec : exec .slotStart s = .next s := by simp only [exec, execSlotStart, ha]
      cases hexec.symm.trans h
      exact .stands
  | collision =>
    cases ha : attemptUnderWay s with
    | none =>
      have hexec : exec .collision s = .next s := by simp only [exec, execCollision, ha]
      cases hexec.symm.trans h
      exact .stands
    | some st =>
      have hexec : exec .collision s = .next (s.collide st) := by simp only [exec, execCollision, ha]
      cases hexec.symm.trans h
      exact .collision st (attemptUnderWay_spec ha).1 (attemptUnderWay_spec ha).2
  | disturbance =>
    cases ha : attemptUnderWay s with
    | none =>
      have hexec : exec .disturbance s = .next s := by simp only [exec, execDisturbance, ha]
      cases hexec.symm.trans h
      exact .stands
    | some st =>
      have hexec : exec .disturbance s = .next (s.disturb st) := by simp only [exec, execDisturbance, ha]
      cases hexec.symm.trans h
      exact .disturbance st (attemptUnderWay_spec ha).1 (attemptUnderWay_spec ha).2
  | frameDrop how =>
    cases ha : attemptUnderWay s with
    | none =>
      have hexec : exec (.frameDrop how) s = .next s := by simp only [exec, execFrameDrop, ha]
      cases hexec.symm.trans h
      exact .stands
    | some st =>
      obtain ⟨hs, hst⟩ := attemptUnderWay_spec ha
      simp only [exec, execFrameDrop, ha] at h
      refine .of_takenIf h fun _ => ?_
      cases how with
      | collision => exact .collision st hs hst
      | disturbance => exact .disturbance st hs hst
  | wholeSend =>
    cases ha : attemptUnderWay s with
    | none =>
      have hexec : exec .wholeSend s = .next s := by simp only [exec, execWholeSend, ha]
      cases hexec.symm.trans h
      exact .stands
    | some st =>
      have hexec : exec .wholeSend s = .next (s.sendWhole st) := by simp only [exec, execWholeSend, ha]
      cases hexec.symm.trans h
      exact .wholeSend st (attemptUnderWay_spec ha).1 (attemptUnderWay_spec ha).2
  | stuckLine => exact .of_takenIf h (.stuckLine rfl)
  | stuckLineEnd =>
    refine .of_takenIf h fun hb => ?_
    simp only [quietTimerRuns, Bool.and_eq_true, decide_eq_true_eq] at hb
    exact .stuckLineEnd rfl hb.1 hb.2
  | iceEvaluation => exact .of_takenIf h fun hb => .ice (Bool.and_eq_true_iff.mp hb).1
  | floodEnd =>
    refine .of_takenIf h fun hb => .ice ?_
    simp only [iceTimerRuns, Bool.and_eq_true] at hb
    exact hb.1.1.1
  | iceWarm =>
    refine .of_takenIf h fun hb => .ice ?_
    simp only [iceTimerRuns, Bool.and_eq_true] at hb
    exact hb.1.1.1
  | iceHoldEnd =>
    refine .of_takenIf h fun hb => .ice ?_
    simp only [iceTimerRuns, Bool.and_eq_true] at hb
    exact hb.1.1.1
  | fogEvaluation => exact .of_takenIf h .fog
  | beamFogSet =>
    refine .of_takenIf h fun hb => .fog ?_
    simp only [Bool.and_eq_true] at hb
    exact hb.1.1
  | beamFogClear =>
    refine .of_takenIf h fun hb => .fog ?_
    simp only [Bool.and_eq_true] at hb
    exact hb.1.1.1
  | marginUnavailable =>
    refine .of_takenIf h fun hb => .fog ?_
    simp only [Bool.and_eq_true] at hb
    exact hb.1.1
  | backupExpiry => exact .of_takenIf h .backup
  | backupOn n => exact .of_takenIf h fun hb => .backup (Bool.and_eq_true_iff.mp hb).1
  | loopFallback n => exact .of_takenIf h fun hb => .timerRunsOut n (Bool.and_eq_true_iff.mp hb).1
  | fadeStep => exact .of_takenIf h .fadeStep
  | pendingCueExpiry => exact .of_takenIf h fun hb => .fadeStep (Bool.and_eq_true_iff.mp hb).1
  | fadeEnd n =>
    refine .of_takenIf h fun hb => .fadeStep ?_
    simp only [Bool.and_eq_true] at hb
    exact hb.1.1
  | capStep => exact .of_takenIf h .capStep
  | cueInputSample b => exact .of_takenIf h (.sample b)
  | cueInputArm n b => exact .of_takenIf h fun hb => .sample b (Bool.and_eq_true_iff.mp hb).1
  | acceptedEdge n b => exact .of_takenIf h fun hb => .sample b (Bool.and_eq_true_iff.mp hb).1
  | generatorPeriodStart g => exact .of_takenIf h (.periodStart g)
  | generatorCountReachesLevel g => exact .of_takenIf h (.reachLevel g)
  | strobeTimerExpiry n => exact .of_takenIf h (.strobe n)
  | readOnlyWindowTransaction code pdi b =>
    refine .of_takenIf h fun hb => ?_
    simp only [Bool.and_eq_true, isReadOnlyCode, Option.any_eq_true, decide_eq_true_eq] at hb
    obtain ⟨-, w, hw, hkind, -⟩ := hb
    unfold State.seePins
    split
    · exact event_transact_readOnly _ hw hkind s b pdi
    · exact event_transact_readOnly _ hw hkind s s.pins.board pdi
  | pselSeenHigh => exact .of_takenIf h fun _ => .of_setPort _ _ _

/-- A step lets 2 µs pass for the generators, or runs a command on the state with the queue's rest. -/
theorem step_cases {s t : State} (h : step s = .next t) :
    t = s.elapse ∨ ∃ c rest, Event c (s.setPending rest) t := by
  unfold step at h
  split at h
  · cases h
    exact .inl rfl
  · exact .inr ⟨_, _, event_of_exec h⟩

/-- An invariant that idle steps and events keep, and that does not read the queue, is kept by every step. -/
theorem step_keeps {P : State → Prop} (hpending : ∀ s rest, P s → P (s.setPending rest)) (helapse : ∀ s, P s → P s.elapse)
    (hevent : ∀ c s t, P s → Event c s t → P t) {s t : State} (hs : P s) (h : step s = .next t) : P t := by
  rcases step_cases h with rfl | ⟨c, rest, hc⟩
  · exact helapse s hs
  · exact hevent c _ t (hpending s rest hs) hc

end Sys2Proof.Machine

/-!
PROOFS. The whole block: totality (O2), ill-formed commands (O3), the moves of the node state (O14), what changes configuration (O15),
the front command and the idle step (O1), the resets (O16).
-/
namespace Sys2Proof.Machine

/-! ### Totality and the queue -/

/-- Every command answers a next state (log entry 1). -/
theorem exec_answers (c : Instr) (s : State) : ∃ t, exec c s = .next t := by
  cases c with
  | discardedLength bits =>
    by_cases hl : bits.length < 8
    · exact ⟨_, if_pos hl⟩
    · exact ⟨_, if_neg hl⟩
  | invalidFrame r =>
    by_cases hc : canReceive s = true
    · exact ⟨_, if_pos hc⟩
    · exact ⟨_, if_neg hc⟩
  | slotStart => cases ha : s.line.access <;> exact ⟨_, by simp only [exec, execSlotStart, ha]; rfl⟩
  | collision => cases ha : attemptUnderWay s <;> exact ⟨_, by simp only [exec, execCollision, ha]; rfl⟩
  | disturbance => cases ha : attemptUnderWay s <;> exact ⟨_, by simp only [exec, execDisturbance, ha]; rfl⟩
  | frameDrop how => cases ha : attemptUnderWay s <;> exact ⟨_, by simp only [exec, execFrameDrop, ha]; rfl⟩
  | wholeSend => cases ha : attemptUnderWay s <;> exact ⟨_, by simp only [exec, execWholeSend, ha]; rfl⟩
  | _ => exact ⟨_, rfl⟩

/-- No command touches the queue of waiting commands. -/
theorem Event.pending {c : Instr} {s t : State} (h : Event c s t) : t.pending = s.pending := by
  cases h <;> simp [State.powerOnValues, State.waitForSelect, State.touchPort]

/-- Settles O2: every row answers, and every case of `Event` keeps the queue. -/
theorem everyCommandAnswersANextState : Obligations.EveryCommandAnswersANextState := by
  intro c s
  obtain ⟨t, h⟩ := exec_answers c s
  exact ⟨t, h, (event_of_exec h).pending⟩

/-! ### Ill-formed commands -/

/-- A legal table holds no entry at an illegal address (R23). -/
theorem entryAt_of_not_peerAddress {s : State} (hs : PeersLegal s) {a : Nat} (ha : peerAddress a = false) :
    entryAt s.peers a = none := by
  obtain ⟨-, -, hentries, -⟩ := hs
  refine List.find?_eq_none.mpr fun e he => ?_
  obtain ⟨⟨hlow, hhigh, -⟩, -⟩ := hentries e he
  simp only [peerAddress, Bool.and_eq_false_iff, decide_eq_false_iff_not] at ha
  simp only [decide_eq_true_eq]
  omega

/-- A row of a frame kind is no event for a frame that is not valid or of another kind (R51). -/
theorem receivesKind_of_not_valid {s : State} {f : Frame} {k : FrameKind} (h : validOfKind f k = false) :
    receivesKind s f k = false := by
  rw [receivesKind, show (f.valid && decide (f.kind = k)) = false from h, Bool.false_and]

/-- Settles O3: each row tests the form of its operands, or finds no entry at an address outside 1 to 60. -/
theorem illFormedCommandsChangeNothing : Obligations.IllFormedCommandsChangeNothing := by
  intro c s hs h
  cases c with
  | configurationWrite code pdi => exact takenIf_of_false (Bool.and_eq_false_iff.mpr (.inr h))
  | unknownCode code pdi => exact takenIf_of_false (Bool.and_eq_false_iff.mpr (.inr h))
  | discardedLength bits =>
    obtain ⟨hlength, hwrong⟩ := Bool.or_eq_false_iff.mp h
    exact (if_neg (of_decide_eq_false hlength)).trans (takenIf_of_false (Bool.and_eq_false_iff.mpr (.inr hwrong)))
  | phaseSplit a =>
    refine takenIf_of_false (Bool.and_eq_false_iff.mpr (.inr ?_))
    rw [entryAt_of_not_peerAddress hs h, Option.any_none]
  | entryStale a =>
    refine takenIf_of_false (Bool.and_eq_false_iff.mpr (.inr ?_))
    rw [becomesStale, entryAt_of_not_peerAddress hs h, Option.any_none, Bool.false_and]
  | entryLost a =>
    refine takenIf_of_false (Bool.and_eq_false_iff.mpr (.inr ?_))
    rw [becomesLost, entryAt_of_not_peerAddress hs h, Option.isSome_none, Bool.false_and]
  | statusReceived f => exact takenIf_of_false (receivesKind_of_not_valid h)
  | fogReceived f => exact takenIf_of_false (receivesKind_of_not_valid h)
  | cueReceived f =>
    exact takenIf_of_false (Bool.and_eq_false_iff.mpr ((Bool.and_eq_false_iff.mp h).imp_left receivesKind_of_not_valid))
  | replayReceived f =>
    exact takenIf_of_false (Bool.and_eq_false_iff.mpr ((Bool.and_eq_false_iff.mp h).imp_left receivesKind_of_not_valid))
  | recallReceived f => exact takenIf_of_false (receivesKind_of_not_valid h)
  | invalidFrame r =>
    have hbad : badReception r = false := h
    by_cases hc : canReceive s = true
    · exact (if_pos hc).trans (takenIf_of_false hbad)
    · exact (if_neg hc).trans (takenIf_of_false (Bool.and_eq_false_iff.mpr (.inl hbad)))
  | fragment r => exact takenIf_of_false (Bool.and_eq_false_iff.mpr (.inr h))
  | validFrameOwnAddress f =>
    refine takenIf_of_false ?_
    rw [show f.valid = false from h, Bool.false_and, Bool.false_and]
  | readOnlyWindowTransaction code pdi b => exact takenIf_of_false (Bool.and_eq_false_iff.mpr (.inr h))
  | _ => cases h

/-! ### Moves of the node state -/

/-- STARTING ends in LISTEN (R156). -/
@[simp] theorem endStarting_state (s : State) : s.endStarting.node.state = .listen := by
  simp [State.endStarting]

/-- STARTING ends at once in LISTEN where nothing is to be measured (R156). -/
theorem endStartingIfDone_state (s : State) :
    s.endStartingIfDone.node.state = if s.meas.zeroSchedule.isEmpty then .listen else s.node.state := by
  unfold State.endStartingIfDone
  split <;> simp

/-- A START that passes its checks ends in STARTING or LISTEN (R155, R156). -/
theorem startNode_state (s : State) : s.startNode.node.state = .starting ∨ s.startNode.node.state = .listen := by
  simp only [State.startNode, endStartingIfDone_state]
  split <;> simp

/-- A RESTART ends in STARTING or LISTEN (R156, R158). -/
theorem restartNode_state (s : State) : s.restartNode.node.state = .starting ∨ s.restartNode.node.state = .listen := by
  simp only [State.restartNode, endStartingIfDone_state]
  split <;> simp

/-- A reference conversion leaves the node state, or ends STARTING (R156). -/
theorem zeroConvert_state (s : State) (n : Fin 12) (raw : Counts) :
    (s.zeroConvert n raw).node.state = s.node.state ∨ (s.zeroConvert n raw).node.state = .listen := by
  simp only [State.zeroConvert, endStartingIfDone_state]
  split <;> simp

/-- A period expiry leaves the node state, or takes LISTEN to RUN (R18). -/
theorem expirePeriod_state (s : State) :
    s.expirePeriod.node.state = s.node.state ∨ s.node.state = .listen ∧ s.expirePeriod.node.state = .run := by
  have hfinish : ∀ u : State, u.finishExpiry.node.state = u.node.state ∨
      u.node.state = .listen ∧ u.finishExpiry.node.state = .run := by
    intro u
    unfold State.finishExpiry
    split
    · simp
    · rename_i hlisten
      split
      · exact .inr ⟨hlisten, by simp [State.enterRun]⟩
      · simp
    · exact .inl rfl
  simpa [State.expirePeriod] using hfinish s.evaluateShare.checkSplit

/-- A clash ends in a clash MUTE (R55). -/
@[simp] theorem clash_state (s : State) : s.clash.node.state = .mute .clash := by
  unfold State.clash
  split <;> simp

/-- A valid frame leaves the node state, or is a clash (R55). -/
theorem receiveValid_state (s : State) (f : Frame) :
    (s.receiveValid f).node.state = s.node.state ∨ (s.receiveValid f).node.state = .mute .clash := by
  simp only [State.receiveValid]
  split <;> simp

/-- A stuck line leaves a MUTE, and enters a stuck-line MUTE from LISTEN or RUN (R54). -/
theorem lineStuck_state (s : State) (h : s.operating = true) :
    s.lineStuck.node.state = s.node.state ∨ mayTransmitIn s.node.state = true ∧ s.lineStuck.node.state = .mute .stuck := by
  cases hn : s.node.state <;> simp_all [State.lineStuck, State.operating, operatingIn, mayTransmitIn]

/-- A stuck-line MUTE ends in LISTEN (R54). -/
@[simp] theorem endStuckLine_state (s : State) : s.endStuckLine.node.state = .listen := by
  unfold State.endStuckLine
  split <;> simp

/-- Every case of `Event` keeps the node state or moves it by Table 10-1. -/
theorem Event.moves {c : Instr} {s t : State} (h : Event c s t) :
    t.node.state = s.node.state ∨ mayMove c s.node.state t.node.state := by
  cases h with
  | powerOn psel hc =>
    subst hc
    exact .inr rfl
  | pinAssertion hc =>
    subst hc
    exact .inr rfl
  | start p q hc hunset =>
    subst hc
    exact .inr ⟨hunset, startNode_state _⟩
  | restart p q hc hop =>
    subst hc
    exact .inr ⟨hop, restartNode_state _⟩
  | zeroConvert n raw hc hdue =>
    refine (zeroConvert_state s n raw).imp_right fun hlisten => ?_
    obtain ⟨hstarting, -⟩ := Bool.and_eq_true_iff.mp hdue
    cases c with
    | zeroReferenceConversion _ _ | zeroMeasurementComplete _ _ => exact ⟨of_decide_eq_true hstarting, hlisten⟩
    | _ => cases hc
  | expirePeriod hc hop =>
    refine (expirePeriod_state s).imp_right fun hrun => ?_
    cases c with
    | statusPeriodExpiry | phaseSplit _ | enterRun => exact hrun
    | _ => cases hc
  | receive f hc hv hop hidle =>
    refine (receiveValid_state s f).imp_right fun hclash => ?_
    cases c with
    | statusReceived _ | fogReceived _ | cueReceived _ | replayReceived _ | recallReceived _ | validFrameOwnAddress _ =>
      exact ⟨hop, hclash⟩
    | _ => cases hc
  | stuckLine hc hop =>
    subst hc
    exact lineStuck_state s hop
  | stuckLineEnd hc hstuck hidle =>
    subst hc
    exact .inr ⟨hstuck, endStuckLine_state s⟩
  | _ => exact .inl (by simp [State.touchPort])

/-- Settles O14: a command's next state is a case of `Event`, and each moves by the table. -/
theorem nodeStateMovesByTheTable : Obligations.NodeStateMovesByTheTable :=
  fun _ _ _ h => (event_of_exec h).moves

/-! ### What changes configuration -/

/-- Every case of `Event` keeps configuration but the two resets and a write in UNSET. -/
theorem Event.cfg {c : Instr} {s t : State} (h : Event c s t) :
    t.cfg = s.cfg ∨ (∃ psel, c = .powerOn psel) ∨ c = .resetPinAssertion ∨ isWriteRow c = true ∧ s.node.state = .unset := by
  cases h with
  | powerOn psel hc => exact .inr (.inl ⟨psel, hc⟩)
  | pinAssertion hc => exact .inr (.inr (.inl hc))
  | write p w d cfg clamped hc hunset hw => exact .inr (.inr (.inr ⟨hc, hunset⟩))
  | _ => exact .inl (by simp [State.touchPort])

/-- Settles O15: by `Event.cfg`, the write rows being CONFIGURATION_WRITE and SCENE_WRITE. -/
theorem configurationChangesOnlyByWritesAndResets : Obligations.ConfigurationChangesOnlyByWritesAndResets := by
  intro c s t h hchange
  rcases (event_of_exec h).cfg with hkeep | hpower | hpin | ⟨hrow, hunset⟩
  · exact absurd hkeep hchange
  · exact .inl hpower
  · exact .inr (.inl hpin)
  · refine .inr (.inr ⟨hunset, ?_⟩)
    cases c with
    | configurationWrite code pdi => exact .inl ⟨code, pdi, rfl⟩
    | sceneWrite pdi => exact .inr ⟨pdi, rfl⟩
    | _ => cases hrow

/-! ### The front command and the idle step -/

/-- An OFF generator stands in an idle step (log entry 7). -/
theorem elapse_of_off {g : Generator} (h : g.running = false) (countTime : Nat) : g.elapse countTime = g := by
  simp [Generator.elapse, h]

/-- An idle step touches the count and its part alone (log entry 7). -/
theorem elapse_count_part (g : Generator) (countTime : Nat) :
    ∃ count part, g.elapse countTime = { g with count := count, part := part } := by
  unfold Generator.elapse
  (repeat' split) <;> exact ⟨_, _, rfl⟩

/-- Settles O1: the front command runs by the definition of a step, and an idle step is one of each generator's count. -/
theorem stepRunsTheFrontCommand : Obligations.StepRunsTheFrontCommand := by
  refine ⟨fun c rest s => rfl, fun s hidle => ⟨s.elapse.gens, ?_, ?_, ?_⟩⟩
  · simp only [step, hidle]
    rfl
  · rintro n d rfl
    rw [State.elapse, State.setGens_gens, mapAt_getElem]
    refine ⟨fun hoff => by rw [elapse_of_off hoff], ?_⟩
    obtain ⟨count, part, h⟩ := elapse_count_part (s.gens.dimmers[n.val]).gen 1
    exact ⟨count, part, by rw [h]⟩
  · rintro n v rfl
    rw [State.elapse, State.setGens_gens, mapAt_getElem]
    exact ⟨fun hoff => elapse_of_off hoff _, elapse_count_part _ _⟩

/-! ### The resets -/

/-- Settles O16: the power-on values are written out, and the release of the pin and PSEL seen high are events under their guards. -/
theorem resetRowsTakePowerOnValues : Obligations.ResetRowsTakePowerOnValues :=
  fun _ _ => ⟨rfl, rfl, fun hheld => takenIf_of_true hheld,
    fun hreleased hwait => takenIf_of_true (by rw [hreleased, hwait]; rfl)⟩

end Sys2Proof.Machine

/-!
PROOFS. The Peer Table stays legal (O5). What each operation makes of the table (R23 to R33), then the invariant over the cases of
`Event`.
-/
namespace Sys2Proof.Machine

/-! ### Fields of frames -/

/-- A field of bits hi to lo is below 2^(hi + 1 - lo). -/
theorem field_lt (data hi lo : Nat) : field data hi lo < 2 ^ (hi + 1 - lo) := Nat.mod_lt _ (by positivity)

/-- What makes a STATUS valid beside its check word, its sender and its markers (R51). -/
theorem countFits_status {f : Frame} (hk : f.kind = .status) :
    f.countFits = true ↔ 2 ≤ f.count.toNat ∧ f.count.toNat ≤ 8 ∧ f.demandCount ≤ 4 ∧
      f.count.toNat = 2 + f.hasCap.toNat + f.hasRadiant.toNat + f.demandCount := by
  simp [Frame.countFits, hk, and_assoc]

/-- The conditions of R51, apart. -/
theorem valid_iff (f : Frame) : f.valid = true ↔
    f.elements.length = f.count.toNat ∧ f.check = f.computedCheck ∧ (1 ≤ f.sender.toNat ∧ f.sender.toNat ≤ 60) ∧
      endMarksRight f.elements = true ∧ f.countFits = true := by
  simp [Frame.valid, Frame.complete, and_assoc]

/-- The ranges of what a valid STATUS carries (Tables 12-1 to 12-3). -/
theorem readStatus_ranges {f : Frame} {c : StatusContent} (hv : f.valid = true) (hk : f.kind = .status)
    (hc : f.readStatus = some c) : c.sequence ≤ 15 ∧ c.period ≤ 7 ∧ c.demands.length ≤ 4 := by
  obtain ⟨hlength, -, -, -, hfits⟩ := (valid_iff f).mp hv
  obtain ⟨-, -, hdemands, hcount⟩ := (countFits_status hk).mp hfits
  obtain ⟨p, -, rfl⟩ := Option.map_eq_some_iff.mp hc
  have hsequence := f.sequence.isLt
  have hperiod := field_lt (f.dataAt 0) 2 0
  simp only [List.length_map, List.length_drop]
  omega

/-- The ranges of a cue as received (R117, Table 12-4). -/
theorem readCue_ranges {f : Frame} {c : Cue} (hc : f.readCue = some c) :
    (1 ≤ c.origin ∧ c.origin ≤ 60) ∧ c.serial ≤ 255 ∧ c.number ≤ 255 ∧ c.wait ≤ 600 ∧ c.fade ≤ 600 := by
  unfold Frame.readCue at hc
  split at hc
  · cases hc
  · dsimp only at hc
    split at hc
    · cases hc
    · split at hc
      · cases hc
      · cases hc
        have hserial := field_lt (f.dataAt 0) 7 0
        have hnumber := field_lt (f.dataAt 0) 15 8
        refine ⟨⟨?_, ?_⟩, ?_, ?_, ?_, ?_⟩ <;> dsimp only <;> omega

/-! ### The table's operations -/

/-- No entry of the address (R25). -/
theorem entryAt_eq_none {peers : List PeerEntry} {a : Nat} : entryAt peers a = none ↔ ∀ e ∈ peers, e.address ≠ a := by
  simp [entryAt]

/-- The entry found is one of the table's, of that address. -/
theorem entryAt_eq_some {peers : List PeerEntry} {a : Nat} {e : PeerEntry} (h : entryAt peers a = some e) :
    e ∈ peers ∧ e.address = a := by
  unfold entryAt at h
  exact ⟨List.mem_of_find?_eq_some h, by simpa using List.find?_some h⟩

/-- The entries after a new one was put in its place (R25). -/
theorem mem_insertEntry {x e : PeerEntry} {peers : List PeerEntry} : e ∈ insertEntry x peers ↔ e = x ∨ e ∈ peers := by
  induction peers with
  | nil => simp [insertEntry]
  | cons y rest ih =>
    unfold insertEntry
    split
    · simp
    · simp [ih, or_left_comm]

theorem insertEntry_length (x : PeerEntry) (peers : List PeerEntry) : (insertEntry x peers).length = peers.length + 1 := by
  induction peers with
  | nil => rfl
  | cons y rest ih =>
    unfold insertEntry
    split <;> simp [ih]

/-- A new entry of an address the table does not hold keeps the ascending order (R23, R25). -/
theorem insertEntry_ascending {x : PeerEntry} {peers : List PeerEntry}
    (h : peers.Pairwise fun a b => a.address < b.address) (hx : ∀ e ∈ peers, e.address ≠ x.address) :
    (insertEntry x peers).Pairwise fun a b => a.address < b.address := by
  induction peers with
  | nil => simp [insertEntry]
  | cons y rest ih =>
    obtain ⟨hy, hrest⟩ := List.pairwise_cons.mp h
    unfold insertEntry
    split
    · rename_i hlt
      refine List.pairwise_cons.mpr ⟨fun e he => ?_, h⟩
      rcases List.mem_cons.mp he with rfl | he
      · exact hlt
      · exact hlt.trans (hy e he)
    · rename_i hge
      refine List.pairwise_cons.mpr ⟨fun e he => ?_, ih hrest fun e he => hx e (List.mem_cons_of_mem _ he)⟩
      have hne := hx y List.mem_cons_self
      rcases mem_insertEntry.mp he with rfl | he
      · omega
      · exact hy e he

/-- A STATUS stored in an entry keeps its address, and clamps what it stores (R24, R27). -/
theorem store_legal {own : Nat} {e : PeerEntry} {c : StatusContent}
    (haddress : 1 ≤ e.address ∧ e.address ≤ 60 ∧ e.address ≠ own) (hgap : e.gapCount ≤ 255)
    (hserial : ∀ l, e.lastCueSerial = some l → l ≤ 255) (hsplit : e.splitCounter ≤ 3)
    (hc : c.sequence ≤ 15 ∧ c.period ≤ 7 ∧ c.demands.length ≤ 4) : EntryLegal own (e.store c) := by
  obtain ⟨hsequence, hperiod, hdemands⟩ := hc
  refine ⟨haddress, hperiod, hsequence, Nat.zero_le _, fun x hx => ?_, fun x hx => ?_, Nat.min_le_left _ _,
    by simpa [PeerEntry.store] using hdemands, fun d hd => ?_, hgap, hserial, hsplit⟩
  · obtain ⟨y, -, rfl⟩ := Option.map_eq_some_iff.mp hx
    exact Nat.min_le_left _ _
  · obtain ⟨y, -, rfl⟩ := Option.map_eq_some_iff.mp hx
    exact Nat.min_le_left _ _
  · obtain ⟨y, -, rfl⟩ := List.mem_map.mp hd
    exact Nat.min_le_left _ _

/-- The STATUS of a listed station keeps its entry legal, by FIRST or not (R26, R27). -/
theorem rewrite_legal {own : Nat} {e : PeerEntry} {c : StatusContent} (h : EntryLegal own e)
    (hc : c.sequence ≤ 15 ∧ c.period ≤ 7 ∧ c.demands.length ≤ 4) : EntryLegal own (e.rewrite c) :=
  store_legal (e := { e with gapCount := 0, splitCounter := 0, lastCueSerial := none }) h.1 (Nat.zero_le _) nofun
    (Nat.zero_le _) hc

theorem publish_legal {own : Nat} {e : PeerEntry} {c : StatusContent} (h : EntryLegal own e)
    (hc : c.sequence ≤ 15 ∧ c.period ≤ 7 ∧ c.demands.length ≤ 4) : EntryLegal own (e.publish c) := by
  obtain ⟨haddress, -, -, -, -, -, -, -, -, -, hserial, hsplit⟩ := h
  exact store_legal
    (e := { e with gapCount := min 255 (e.gapCount + (((c.sequence : Int) - (e.lastSequence : Int) - 1) % 16).toNat) })
    haddress (Nat.min_le_left _ _) hserial hsplit hc

/-- A new entry of another station is legal (R25). -/
theorem newEntry_legal {own a : Nat} {c : StatusContent} (ha : 1 ≤ a ∧ a ≤ 60 ∧ a ≠ own)
    (hc : c.sequence ≤ 15 ∧ c.period ≤ 7 ∧ c.demands.length ≤ 4) : EntryLegal own (newEntry a c) :=
  store_legal (e := .blank a) ha (Nat.zero_le _) nofun (Nat.zero_le _) hc

/-- An entry aged is legal (R28). -/
theorem aged_legal {own : Nat} {e : PeerEntry} (h : EntryLegal own e) : EntryLegal own e.aged := by
  obtain ⟨haddress, hperiod, hsequence, -, hrest⟩ := h
  exact ⟨haddress, hperiod, hsequence, Nat.min_le_left _ _, hrest⟩

/-- An entry after the split check is legal (R33). -/
theorem splitStep_legal {own : Nat} {e : PeerEntry} (phase : Phase) (h : EntryLegal own e) :
    EntryLegal own (e.splitStep phase) := by
  obtain ⟨haddress, hperiod, hsequence, hage, hcap, hradiant, hoffer, hlength, hdemands, hgap, hserial, -⟩ := h
  refine ⟨haddress, hperiod, hsequence, hage, hcap, hradiant, hoffer, hlength, hdemands, hgap, hserial, ?_⟩
  unfold PeerEntry.splitStep
  split
  · exact Nat.min_le_left _ _
  · exact Nat.zero_le _

/-- An entry with another fog state is legal (R30). -/
theorem setFog_legal {own : Nat} {e : PeerEntry} (x : FogLevel) (h : EntryLegal own e) :
    EntryLegal own { e with fog := x } := h

/-- An entry with another last cue serial is legal (R118). -/
theorem setSerial_legal {own : Nat} {e : PeerEntry} {serial : Nat} (h : EntryLegal own e) (hs : serial ≤ 255) :
    EntryLegal own { e with lastCueSerial := some serial } := by
  obtain ⟨haddress, hperiod, hsequence, hage, hcap, hradiant, hoffer, hlength, hdemands, hgap, -, hsplit⟩ := h
  refine ⟨haddress, hperiod, hsequence, hage, hcap, hradiant, hoffer, hlength, hdemands, hgap, ?_, hsplit⟩
  rintro l ⟨⟩
  exact hs

/-! ### Legal tables -/

/-- The part of `PeersLegal` that reads the table and the own address alone. -/
def TableLegal (own : Nat) (peers : List PeerEntry) : Prop :=
  peers.length ≤ 31 ∧ peers.Pairwise (fun a b => a.address < b.address) ∧ ∀ e ∈ peers, EntryLegal own e

theorem peersLegal_iff (s : State) :
    PeersLegal s ↔ TableLegal s.cfg.node.address s.peers ∧ (s.operating = false → s.peers = []) := by
  simp only [PeersLegal, TableLegal, and_assoc]

theorem tableLegal_nil (own : Nat) : TableLegal own [] := ⟨Nat.zero_le _, .nil, nofun⟩

/-- Entries rewritten one by one, each at its address. -/
theorem TableLegal.map {own : Nat} {peers : List PeerEntry} (h : TableLegal own peers) {g : PeerEntry → PeerEntry}
    (haddress : ∀ e, (g e).address = e.address) (hg : ∀ e ∈ peers, EntryLegal own e → EntryLegal own (g e)) :
    TableLegal own (peers.map g) := by
  obtain ⟨hlength, hascending, hentries⟩ := h
  refine ⟨by simpa using hlength, ?_, fun e he => ?_⟩
  · rw [List.pairwise_map]
    simpa only [haddress] using hascending
  · obtain ⟨x, hx, rfl⟩ := List.mem_map.mp he
    exact hg x hx (hentries x hx)

/-- The entry of one address rewritten. -/
theorem TableLegal.updateEntry {own : Nat} {peers : List PeerEntry} (h : TableLegal own peers) (a : Nat)
    {g : PeerEntry → PeerEntry} (haddress : ∀ e, (g e).address = e.address)
    (hg : ∀ e, EntryLegal own e → EntryLegal own (g e)) : TableLegal own (updateEntry peers a g) := by
  refine h.map (fun e => ?_) (fun e _ he => ?_)
  · split
    · exact haddress e
    · rfl
  · split
    · exact hg e he
    · exact he

/-- Entries left out. -/
theorem TableLegal.filter {own : Nat} {peers : List PeerEntry} (h : TableLegal own peers) (p : PeerEntry → Bool) :
    TableLegal own (peers.filter p) := by
  obtain ⟨hlength, hascending, hentries⟩ := h
  exact ⟨(List.length_filter_le _ _).trans hlength, hascending.filter p, fun e he => hentries e (List.mem_of_mem_filter he)⟩

/-- A STATUS of another station stored in a legal table (R25 to R27). -/
theorem TableLegal.afterStatus {own a : Nat} {peers : List PeerEntry} (h : TableLegal own peers) {c : StatusContent}
    (ha : 1 ≤ a ∧ a ≤ 60 ∧ a ≠ own) (hc : c.sequence ≤ 15 ∧ c.period ≤ 7 ∧ c.demands.length ≤ 4) :
    TableLegal own (peersAfterStatus peers a c) := by
  unfold peersAfterStatus
  split
  · rename_i hnone
    split
    · rename_i hroom
      obtain ⟨-, hascending, hentries⟩ := h
      refine ⟨by rw [insertEntry_length]; omega, insertEntry_ascending hascending (entryAt_eq_none.mp hnone), fun e he => ?_⟩
      rcases mem_insertEntry.mp he with rfl | he
      · exact newEntry_legal ha hc
      · exact hentries e he
    · exact h
  · split
    · exact h.updateEntry a (fun _ => rfl) fun _ he => rewrite_legal he hc
    · split
      · exact h
      · exact h.updateEntry a (fun _ => rfl) fun _ he => publish_legal he hc

/-! ### The invariant -/

/-- The table stands, and the node is still in LISTEN, RUN or MUTE if it was. -/
theorem PeersLegal.of_peers {s t : State} (h : PeersLegal s) (hp : t.peers = s.peers) (hc : t.cfg = s.cfg)
    (ho : s.operating = true → t.operating = true) : PeersLegal t := by
  rw [peersLegal_iff] at h ⊢
  obtain ⟨htable, hempty⟩ := h
  rw [hp, hc]
  refine ⟨htable, fun hoff => hempty ?_⟩
  cases hs : s.operating with
  | false => rfl
  | true => rw [ho hs] at hoff; cases hoff

/-- A legal table in LISTEN, RUN or MUTE. -/
theorem PeersLegal.of_table {t : State} (h : TableLegal t.cfg.node.address t.peers) (ho : t.operating = true) : PeersLegal t :=
  (peersLegal_iff t).mpr ⟨h, fun hoff => by rw [ho] at hoff; cases hoff⟩

/-- An empty table. -/
theorem PeersLegal.of_empty {t : State} (h : t.peers = []) : PeersLegal t :=
  (peersLegal_iff t).mpr ⟨h ▸ tableLegal_nil _, fun _ => h⟩

/-- A table in LISTEN, RUN or MUTE. -/
theorem PeersLegal.table {s : State} (h : PeersLegal s) : TableLegal s.cfg.node.address s.peers := ((peersLegal_iff s).mp h).1

/-- Whether a node is in LISTEN, RUN or MUTE rests on its state. -/
theorem operating_congr {s t : State} (h : t.node.state = s.node.state) : t.operating = s.operating := by
  rw [State.operating, State.operating, h]

/-- What a delivered frame of another station makes of a legal table (R24 to R30, R118). -/
theorem deliver_table {s : State} {f : Frame} (h : TableLegal s.cfg.node.address s.peers) (hv : f.valid = true)
    (hother : bearsOwnAddress s f = false) : TableLegal s.cfg.node.address (s.deliver f).peers := by
  obtain ⟨-, -, hsender, -, -⟩ := (valid_iff f).mp hv
  have haddress : 1 ≤ f.sender.toNat ∧ f.sender.toNat ≤ 60 ∧ f.sender.toNat ≠ s.cfg.node.address :=
    ⟨hsender.1, hsender.2, of_decide_eq_false hother⟩
  unfold State.deliver
  split
  · rename_i hk
    unfold State.deliverStatus
    split
    · exact h
    · rename_i c hc
      simpa using h.afterStatus haddress (readStatus_ranges hv hk hc)
  · unfold State.deliverFog
    split
    · exact h
    · rename_i on hon
      simpa using h.updateEntry f.sender.toNat (g := fun e => { e with fog := if on then .fog else .act }) (fun _ => rfl)
        fun e he => setFog_legal _ he
  · unfold State.deliverCue
    split
    · exact h
    · rename_i c hc
      obtain ⟨-, hserial, -⟩ := readCue_ranges hc
      have hmarked := h.updateEntry c.origin (g := fun e => { e with lastCueSerial := some c.serial }) (fun _ => rfl)
        fun e he => setSerial_legal he hserial
      split
      · simpa using h
      · unfold State.acceptCue
        split
        · dsimp only
          split <;> simpa using hmarked
        · exact h
  · simpa using h

/-- The table after a fog, cap or clash step of a valid frame (R52, R55). -/
theorem receiveValid_peersLegal {s : State} {f : Frame} (h : PeersLegal s) (hv : f.valid = true) (ho : s.operating = true) :
    PeersLegal (s.receiveValid f) := by
  unfold State.receiveValid
  dsimp only
  split
  · refine h.of_peers (by simp) (by simp) fun _ => ?_
    rw [State.operating, clash_state]
    rfl
  · rename_i hother
    refine .of_table ?_ ((operating_congr (by simp)).trans ho)
    have htable : TableLegal s.cfg.node.address (s.scoreDown.setAccess .closed).peers := by simpa using h.table
    have hcfg : (s.scoreDown.setAccess .closed).cfg = s.cfg := by simp
    simpa using deliver_table (s := s.scoreDown.setAccess .closed) (hcfg ▸ htable) hv
      (by simpa [bearsOwnAddress] using hother)

/-- The table after a period expiry (R33). -/
theorem expirePeriod_peers (s : State) : s.expirePeriod.peers = s.peers.map (PeerEntry.splitStep s.light.phase) := by
  simp [State.expirePeriod, State.checkSplit]

/-- A START and a RESTART empty the table (R23, R156). -/
@[simp] theorem enterStarting_peers (s : State) : s.enterStarting.peers = [] := by simp [State.enterStarting]

@[simp] theorem startNode_peers (s : State) : s.startNode.peers = [] := by simp [State.startNode]

@[simp] theorem restartNode_peers (s : State) : s.restartNode.peers = [] := by simp [State.restartNode]

/-- Every case of `Event` keeps the Peer Table legal. -/
theorem Event.peersLegal {c : Instr} {s t : State} (hs : PeersLegal s) (h : Event c s t) : PeersLegal t := by
  cases h with
  | powerOn | pinAssertion => exact .of_empty rfl
  | write p w d cfg clamped hc hunset hw =>
    have hempty : s.peers = [] := ((peersLegal_iff s).mp hs).2 (by rw [State.operating, hunset]; rfl)
    exact .of_empty hempty
  | start p q hc hunset => exact .of_empty (startNode_peers _)
  | restart p q hc hop => exact .of_empty (restartNode_peers _)
  | zeroConvert n raw hc hdue =>
    refine hs.of_peers (by simp) (by simp) fun hop => ?_
    rcases zeroConvert_state s n raw with hkeep | hlisten
    · exact (operating_congr hkeep).trans hop
    · rw [State.operating, hlisten]
      rfl
  | expirePeriod hc hop =>
    refine .of_table ?_ ?_
    · rw [expirePeriod_peers]
      simpa using hs.table.map (g := PeerEntry.splitStep s.light.phase) (fun _ => rfl) fun e _ he => splitStep_legal _ he
    · rcases expirePeriod_state s with hkeep | ⟨-, hrun⟩
      · exact (operating_congr hkeep).trans hop
      · rw [State.operating, hrun]
        rfl
  | agePeers hop =>
    refine .of_table ?_ ((operating_congr (by simp)).trans hop)
    have haged := (hs.table.map (g := PeerEntry.aged) (fun _ => rfl) fun e _ he => aged_legal he).filter fun e => !e.lost
    simpa [State.agePeerTable, Machine.agePeers] using haged
  | receive f hc hv hop hidle => exact receiveValid_peersLegal hs hv hop
  | stuckLine hc hop =>
    refine hs.of_peers (by simp) (by simp) fun _ => ?_
    rcases lineStuck_state s hop with hkeep | ⟨-, hstuck⟩
    · exact (operating_congr hkeep).trans hop
    · rw [State.operating, hstuck]
      rfl
  | stuckLineEnd hc hstuck hidle =>
    refine hs.of_peers (by simp) (by simp) fun _ => ?_
    rw [State.operating, endStuckLine_state]
    rfl
  | _ =>
    refine hs.of_peers ?_ ?_ fun hop => (operating_congr ?_).trans hop
    all_goals simp [State.touchPort]

/-- Settles O5: idle steps touch the generators alone, and every case of `Event` keeps the table legal. -/
theorem stepKeepsPeersLegal : Obligations.StepKeepsPeersLegal :=
  fun _ _ hs h => step_keeps (P := PeersLegal) (fun _ _ hs => hs)
    (fun s hs => hs.of_peers (by simp) (by simp) fun hop => (operating_congr (by simp)).trans hop)
    (fun _ _ _ => Event.peersLegal) hs h

end Sys2Proof.Machine

/-!
PROOFS. The Line Interface stays legal (O6). The rules of the queue, the score and the stage (R40 to R48, R53), then the invariant over
the cases of `Event`.
-/
namespace Sys2Proof.Machine

/-! ### The queue -/

/-- Every frame held in the queue stands in a place of its own kind (R46). -/
theorem QueueLegal.empty : QueueLegal .empty := ⟨nofun, nofun, nofun, nofun, nofun⟩

/-- A frame of its place's kind at a fresh attempt number. -/
theorem placeLegal_fresh {isKind : TxFrame → Bool} {t : TxFrame} (h : isKind t = true) :
    ∀ x, some { frame := t, attempt := 0 : Queued } = some x → PlaceLegal isKind x := by
  rintro x ⟨⟩
  exact ⟨h, Nat.zero_le _⟩

/-- A frame offered enters its own place (R46). -/
theorem QueueLegal.enter {q : TxQueue} (h : QueueLegal q) (t : TxFrame) : QueueLegal (q.enter t) := by
  obtain ⟨hstatus, hfog, hrecall, hreplay, hcues⟩ := h
  cases t with
  | status c => exact ⟨placeLegal_fresh rfl, hfog, hrecall, hreplay, hcues⟩
  | fog on => exact ⟨hstatus, placeLegal_fresh rfl, hrecall, hreplay, hcues⟩
  | replay c => exact ⟨hstatus, hfog, hrecall, placeLegal_fresh rfl, hcues⟩
  | cue c =>
    refine ⟨hstatus, hfog, hrecall, hreplay, fun x hx => ?_⟩
    rcases List.mem_append.mp hx with hx | hx
    · exact hcues x hx
    · rw [List.mem_singleton.mp hx]
      exact ⟨rfl, Nat.zero_le _⟩
  | _ => exact ⟨hstatus, hfog, placeLegal_fresh rfl, hreplay, hcues⟩

/-- A place that takes back a frame keeps a newer one (R47). -/
theorem placeLegal_orElse {isKind : TxFrame → Bool} {place : Option Queued} {x : Queued}
    (h : ∀ y, place = some y → PlaceLegal isKind y) (hx : PlaceLegal isKind x) :
    ∀ y, (place.orElse fun _ => some x) = some y → PlaceLegal isKind y := by
  cases place with
  | none =>
    rintro y ⟨⟩
    exact hx
  | some z => exact h

/-- A frame given back enters its own place (R47, R48). -/
theorem QueueLegal.giveBack {q : TxQueue} (h : QueueLegal q) {x : Queued} (hx : x.attempt ≤ 15) :
    QueueLegal (q.giveBack x) := by
  obtain ⟨hstatus, hfog, hrecall, hreplay, hcues⟩ := h
  obtain ⟨t, k⟩ := x
  cases t with
  | status c => exact ⟨placeLegal_orElse hstatus ⟨rfl, hx⟩, hfog, hrecall, hreplay, hcues⟩
  | fog on => exact ⟨hstatus, placeLegal_orElse hfog ⟨rfl, hx⟩, hrecall, hreplay, hcues⟩
  | replay c => exact ⟨hstatus, hfog, hrecall, placeLegal_orElse hreplay ⟨rfl, hx⟩, hcues⟩
  | cue c =>
    refine ⟨hstatus, hfog, hrecall, hreplay, fun y hy => ?_⟩
    rcases List.mem_cons.mp hy with rfl | hy
    · exact ⟨rfl, hx⟩
    · exact hcues y hy
  | _ => exact ⟨hstatus, hfog, placeLegal_orElse hrecall ⟨rfl, hx⟩, hreplay, hcues⟩

/-- The queue without its head is legal (R48). -/
theorem QueueLegal.withoutHead {q : TxQueue} (h : QueueLegal q) : QueueLegal q.withoutHead := by
  obtain ⟨hstatus, hfog, hrecall, hreplay, hcues⟩ := h
  unfold TxQueue.withoutHead
  split
  · exact ⟨hstatus, nofun, hrecall, hreplay, hcues⟩
  · split
    · split
      · exact ⟨hstatus, hfog, nofun, hreplay, hcues⟩
      · split
        · exact ⟨hstatus, hfog, hrecall, nofun, hcues⟩
        · exact ⟨nofun, hfog, hrecall, hreplay, hcues⟩
    · exact ⟨hstatus, hfog, hrecall, hreplay, fun x hx => hcues x (List.mem_of_mem_tail hx)⟩

/-- A frame of another place than the CUE places is no CUE without the replay mark. -/
theorem isCue_of_ofStatus {t : TxFrame} (h : ofStatus t = true) : t.isCue = false := by cases t <;> trivial

theorem isCue_of_ofFog {t : TxFrame} (h : ofFog t = true) : t.isCue = false := by cases t <;> trivial

theorem isCue_of_ofRecall {t : TxFrame} (h : ofRecall t = true) : t.isCue = false := by cases t <;> trivial

theorem isCue_of_ofReplay {t : TxFrame} (h : ofReplay t = true) : t.isCue = false := by cases t <;> trivial

/-- The head moved out of the queue leaves room for itself: no more CUE frames are held than before (R46, R48). -/
theorem withoutHead_cues {q : TxQueue} (h : QueueLegal q) {x : Queued} (hx : q.head = some x) :
    x.attempt ≤ 15 ∧ q.withoutHead.cuePlaces.length + x.frame.isCue.toNat ≤ q.cuePlaces.length := by
  obtain ⟨hstatus, hfog, hrecall, hreplay, hcues⟩ := h
  have hother : x.attempt ≤ 15 → x.frame.isCue = false →
      x.attempt ≤ 15 ∧ q.cuePlaces.length + x.frame.isCue.toNat ≤ q.cuePlaces.length := by
    intro hattempt hkind
    rw [hkind]
    exact ⟨hattempt, Nat.le_refl _⟩
  unfold TxQueue.head at hx
  unfold TxQueue.withoutHead
  cases hf : q.fogPlace with
  | some y =>
    rw [hf] at hx
    cases hx
    obtain ⟨hkind, hattempt⟩ := hfog x hf
    exact hother hattempt (isCue_of_ofFog hkind)
  | none =>
    cases hc : q.cuePlaces with
    | cons y rest =>
      simp only [hf, hc, Option.orElse_none, List.head?_cons, Option.orElse_some, Option.some.injEq] at hx
      subst hx
      obtain ⟨hcue, hattempt⟩ := hcues y (hc ▸ List.mem_cons_self)
      simp [hcue, hattempt]
    | nil =>
      cases hr : q.recallPlace with
      | some y =>
        simp only [hf, hc, hr, Option.orElse_none, List.head?_nil, Option.orElse_some, Option.some.injEq] at hx
        subst hx
        obtain ⟨hkind, hattempt⟩ := hrecall y hr
        simpa [hc] using hother hattempt (isCue_of_ofRecall hkind)
      | none =>
        cases hp : q.replayPlace with
        | some y =>
          simp only [hf, hc, hr, hp, Option.orElse_none, List.head?_nil, Option.orElse_some, Option.some.injEq] at hx
          subst hx
          obtain ⟨hkind, hattempt⟩ := hreplay y hp
          simpa [hc] using hother hattempt (isCue_of_ofReplay hkind)
        | none =>
          simp only [hf, hc, hr, hp, Option.orElse_none, List.head?_nil] at hx
          obtain ⟨hkind, hattempt⟩ := hstatus x hx
          simpa [hc] using hother hattempt (isCue_of_ofStatus hkind)

/-! ### The line's operations -/

/-- The part of `LineLegal` that reads the line, and whether the node may transmit. -/
def LineOk (transmits : Bool) (l : LineInterface) : Prop :=
  (l.score ≤ 255 ∧ (l.degraded = true → 32 ≤ l.score) ∧ (l.degraded = false → l.score ≤ 95)) ∧
    (l.ownSequence ≤ 15 ∧ l.cueSerial ≤ 255) ∧ QueueLegal l.queue ∧ l.cuesHeld ≤ 2 ∧
    (∀ st, l.stage = some st → st.queued.attempt ≤ 15) ∧ (l.access = .sending ↔ l.stage.isSome = true) ∧
    (transmits = false → l.queue = .empty ∧ l.stage = none)

theorem lineLegal_iff (s : State) : LineLegal s ↔ LineOk (mayTransmitIn s.node.state) s.line := Iff.rfl

/-- The line stands and the node state too. -/
theorem LineLegal.congr {s t : State} (h : LineLegal s) (hline : t.line = s.line) (hstate : t.node.state = s.node.state) :
    LineLegal t := by
  rw [lineLegal_iff] at h ⊢
  rwa [hline, hstate]

/-- Outside LISTEN and RUN no own attempt is under way. -/
theorem LineOk.of_stage {transmits : Bool} {l : LineInterface} (h : LineOk transmits l) {st : Staged} (hst : l.stage = some st) :
    transmits = true := by
  obtain ⟨-, -, -, -, -, -, hmute⟩ := h
  cases transmits with
  | true => rfl
  | false =>
    obtain ⟨-, hnone⟩ := hmute rfl
    rw [hst] at hnone
    exact absurd hnone (Option.some_ne_none st)

/-- An empty stage holds no attempt number. -/
theorem attempt_of_none (st : Staged) (h : none = some st) : st.queued.attempt ≤ 15 := by cases h

/-- A line with an empty queue and stage is legal in every node state. -/
theorem LineOk.discarded {transmits : Bool} {l : LineInterface} (h : LineOk transmits l) (other : Bool) {a : Access}
    (ha : a ≠ .sending) : LineOk other { l with queue := .empty, stage := none, access := a } := by
  obtain ⟨hscore, hcounters, -, -, -, -, -⟩ := h
  exact ⟨hscore, hcounters, .empty, Nat.zero_le _, attempt_of_none,
    ⟨fun hs => absurd hs ha, fun hs => absurd hs Bool.false_ne_true⟩, fun _ => ⟨rfl, rfl⟩⟩

/-- While no own attempt is under way the stage is empty, and the line may be seen otherwise (R36). -/
theorem LineOk.setAccess {transmits : Bool} {l : LineInterface} (h : LineOk transmits l) {a : Access} (ha : a ≠ .sending)
    (hidle : l.access ≠ .sending) : LineOk transmits { l with access := a } := by
  obtain ⟨hscore, hcounters, hqueue, hcues, hstage, hsending, hmute⟩ := h
  exact ⟨hscore, hcounters, hqueue, hcues, hstage, ⟨fun hs => absurd hs ha, fun hs => absurd (hsending.mpr hs) hidle⟩, hmute⟩

/-- Another score and degraded condition within the bounds of R53. -/
theorem LineOk.setScore {transmits : Bool} {l : LineInterface} (h : LineOk transmits l) {score : Nat} {degraded : Bool}
    (hscore : score ≤ 255 ∧ (degraded = true → 32 ≤ score) ∧ (degraded = false → score ≤ 95)) :
    LineOk transmits { l with score := score, degraded := degraded } := by
  obtain ⟨-, hrest⟩ := h
  exact ⟨hscore, hrest⟩

/-- The score after a rise keeps R53's bounds. -/
theorem scoreUp_legal {s : State} (h : LineLegal s) : LineLegal s.scoreUp := by
  have hline : s.scoreUp.line = { s.line with
      score := min 255 (s.line.score + 8)
      degraded := s.line.degraded || (decide (96 ≤ min 255 (s.line.score + 8)) && !s.line.degraded) } := by
    simp [State.scoreUp]
  have hstate : s.scoreUp.node.state = s.node.state := by simp
  rw [lineLegal_iff, hline, hstate]
  obtain ⟨⟨hmax, hset, hclear⟩, -⟩ := id h
  refine LineOk.setScore h ⟨Nat.min_le_left _ _, fun hd => ?_, fun hd => ?_⟩
  · cases hdeg : s.line.degraded with
    | true =>
      have := hset hdeg
      omega
    | false =>
      simp only [hdeg, Bool.false_or, Bool.not_false, Bool.and_true, decide_eq_true_eq] at hd
      omega
  · simp only [Bool.or_eq_false_iff, Bool.and_eq_false_iff, Bool.not_eq_false', decide_eq_false_iff_not] at hd
    obtain ⟨hclear, hlow | hset⟩ := hd
    · omega
    · cases hclear.symm.trans hset

/-- The score after a fall keeps R53's bounds. -/
theorem scoreDown_legal {s : State} (h : LineLegal s) : LineLegal s.scoreDown := by
  obtain ⟨⟨hmax, hset, hclear⟩, -⟩ := id h
  refine LineOk.setScore h ⟨by omega, fun hd => ?_, fun hd => ?_⟩
  · simp only [Bool.and_eq_true, Bool.not_eq_true', decide_eq_false_iff_not] at hd
    omega
  · cases hdeg : s.line.degraded with
    | true =>
      simp only [hdeg, Bool.true_and, Bool.not_eq_false', decide_eq_true_eq] at hd
      omega
    | false =>
      have := hclear hdeg
      omega

/-- A frame that Table 3-4 lets in leaves at most two CUE frames held. -/
theorem enter_cuesHeld {l : LineInterface} (h : l.cuesHeld ≤ 2) {t : TxFrame} (ha : l.accepts t = true) :
    ({ l with queue := l.queue.enter t } : LineInterface).cuesHeld ≤ 2 := by
  cases t with
  | cue c =>
    have hroom : l.cuesHeld < 2 := of_decide_eq_true ha
    simp only [LineInterface.cuesHeld, TxQueue.enter, List.length_append, List.length_singleton] at hroom ⊢
    omega
  | _ => exact h

/-- An offered frame keeps the line legal (R46). -/
theorem offer_legal {s : State} (h : LineLegal s) (t : TxFrame) : LineLegal (s.offer t) := by
  unfold State.offer
  split
  · rename_i hmay
    split
    · rename_i haccepts
      obtain ⟨hscore, hcounters, hqueue, hcues, hstage, hsending, -⟩ := h
      exact ⟨hscore, hcounters, hqueue.enter t, enter_cuesHeld hcues haccepts, hstage, hsending,
        fun hoff => by rw [State.setLine_node, hmay] at hoff; cases hoff⟩
    · exact h.congr (by simp) (by simp)
  · exact h

/-- A staged frame counts as CUE frame where it is one (Table 3-4). -/
theorem stagedCue_some (st : Staged) : stagedCue (some st) = st.queued.frame.isCue := by
  obtain ⟨⟨t, k⟩, w⟩ := st
  cases t <;> rfl

/-- The frame written at an attempt is of its kind (R49). -/
theorem atAttempt_isCue (own : FogLevel) (t : TxFrame) : (atAttempt own t).isCue = t.isCue := by
  cases t <;> rfl

/-- An attempt moves the head into the stage (R41, R48). -/
theorem beginAttempt_legal {s : State} (h : LineLegal s) {x : Queued} (hx : s.line.queue.head = some x)
    (hmay : mayTransmitIn s.node.state = true) :
    LineLegal (s.beginAttempt x) := by
  obtain ⟨hscore, hcounters, hqueue, hcues, -, hsending, -⟩ := h
  obtain ⟨hattempt, hheld⟩ := withoutHead_cues hqueue hx
  refine ⟨hscore, hcounters, hqueue.withoutHead, ?_, ?_, ⟨fun _ => rfl, fun _ => rfl⟩, fun hoff => ?_⟩
  · have hone : (s.beginAttempt x).line.cuesHeld = s.line.queue.withoutHead.cuePlaces.length + x.frame.isCue.toNat := by
      simp only [State.beginAttempt, State.setLine_line, LineInterface.cuesHeld, stagedCue_some, atAttempt_isCue]
    have hless : s.line.queue.cuePlaces.length ≤ s.line.cuesHeld := Nat.le_add_right _ _
    omega
  · rintro st ⟨⟩
    exact hattempt
  · rw [State.beginAttempt, State.setLine_node, hmay] at hoff
    cases hoff

/-- A slot start keeps the line legal (R41). -/
theorem startSlot_legal {s : State} (h : LineLegal s) {k : Nat} (hidle : s.line.access = .idle k) :
    LineLegal (s.startSlot k) := by
  have hnot : s.line.access ≠ .sending := by rw [hidle]; nofun
  unfold State.startSlot
  split
  · rename_i x hx
    split
    · rename_i hmay
      exact beginAttempt_legal h hx (Bool.and_eq_true_iff.mp hmay).1
    · exact LineOk.setAccess h nofun hnot
  · exact LineOk.setAccess h nofun hnot

/-- The frame given back counts where it counted in the stage (Table 3-4). -/
theorem giveBack_cues (q : TxQueue) (x : Queued) :
    (q.giveBack x).cuePlaces.length = q.cuePlaces.length + x.frame.isCue.toNat := by
  obtain ⟨t, k⟩ := x
  cases t <;> rfl

/-- The line after a failed attempt: the frame dropped, or given back with the next attempt number (R42, R45). -/
def LineInterface.afterFailure (l : LineInterface) (st : Staged) : LineInterface :=
  if 16 ≤ st.queued.attempt + 1 then { l with stage := none }
  else { l with stage := none, queue := l.queue.giveBack { st.queued with attempt := st.queued.attempt + 1 } }

theorem failAttempt_line (s : State) (st : Staged) : (s.failAttempt st).line = s.line.afterFailure st := by
  unfold State.failAttempt LineInterface.afterFailure
  split
  · simp
  · rfl

/-- A failed attempt keeps the line legal (R42, R43, R45). -/
theorem LineOk.afterFailure {transmits : Bool} {l : LineInterface} (h : LineOk transmits l) {st : Staged}
    (hst : l.stage = some st) {a : Access} (ha : a ≠ .sending) :
    LineOk transmits { l.afterFailure st with access := a } := by
  have hmay := h.of_stage hst
  obtain ⟨hscore, hcounters, hqueue, hcues, hstage, -, -⟩ := h
  have hheld : l.queue.cuePlaces.length + st.queued.frame.isCue.toNat ≤ 2 := by
    rwa [LineInterface.cuesHeld, hst, stagedCue_some] at hcues
  have hnone : a = .sending ↔ (none : Option Staged).isSome = true := ⟨fun hs => absurd hs ha, fun hs => absurd hs Bool.false_ne_true⟩
  subst hmay
  unfold LineInterface.afterFailure
  split
  · refine ⟨hscore, hcounters, hqueue, ?_, attempt_of_none, hnone, nofun⟩
    show l.queue.cuePlaces.length + 0 ≤ 2
    omega
  · rename_i hlow
    refine ⟨hscore, hcounters, hqueue.giveBack (by dsimp only; omega), ?_, attempt_of_none, hnone,
      nofun⟩
    simp only [LineInterface.cuesHeld, giveBack_cues, stagedCue, Bool.toNat_false]
    omega

/-- A whole send empties the stage (R44). -/
theorem sendWhole_legal {s : State} (h : LineLegal s) {st : Staged} (hst : s.line.stage = some st) :
    LineLegal (s.sendWhole st) := by
  have hmay := LineOk.of_stage h hst
  have hsent : LineLegal (s.setLine { s.line with stage := none, access := .closed }) := by
    obtain ⟨hscore, hcounters, hqueue, hcues, -, -, -⟩ := h
    refine ⟨hscore, hcounters, hqueue, ?_, attempt_of_none, ⟨nofun, fun hs => absurd hs Bool.false_ne_true⟩, fun hoff => ?_⟩
    · exact (Nat.add_le_add_left (Nat.zero_le _) _).trans hcues
    · rw [State.setLine_node, hmay] at hoff
      cases hoff
  refine (scoreDown_legal hsent).congr (sendWhole_line s st) ?_
  simp

/-! ### The invariant -/

/-- The line after an entry into MUTE (R56). -/
theorem enterMute_line (s : State) (k : MuteKind) : (s.enterMute k).line = { s.line with
    queue := .empty
    stage := none
    access := if s.line.access = .sending then .closed else s.line.access } := by
  simp [State.enterMute]

/-- No attempt is under way after an entry into MUTE (R56). -/
theorem enterMute_access (s : State) (k : MuteKind) : (s.enterMute k).line.access ≠ .sending := by
  rw [enterMute_line]
  dsimp only
  split
  · nofun
  · assumption

/-- An entry into MUTE discards the queue and the stage (R56). -/
theorem enterMute_legal {s : State} (h : LineLegal s) (k : MuteKind) : LineLegal (s.enterMute k) := by
  have haccess := enterMute_access s k
  rw [enterMute_line] at haccess
  rw [lineLegal_iff, enterMute_line]
  exact LineOk.discarded h _ haccess

/-- An entry into LISTEN from a node state in which nothing is held (R36, R128). -/
theorem enterListen_legal {s : State} (h : LineLegal s) (hoff : mayTransmitIn s.node.state = false) :
    LineLegal s.enterListen := by
  obtain ⟨hscore, hcounters, hqueue, hcues, hstage, -, hnone⟩ := h
  obtain ⟨-, hempty⟩ := hnone hoff
  refine offer_legal (s := (((s.setNodeState .listen).setLine { s.line with access := .noRelease }).setComp
    { s.comp with expiryCount := 0 }).setLight { s.light with takeMarker := false })
    ⟨hscore, hcounters, hqueue, hcues, hstage, ⟨nofun, fun hs => ?_⟩, nofun⟩ .recall
  rw [State.setLight_line, State.setComp_line, State.setLine_line] at hs
  dsimp only at hs
  rw [hempty] at hs
  cases hs

/-- STARTING holds nothing, so its end keeps the line legal (R156). -/
theorem endStartingIfDone_legal {s : State} (h : LineLegal s) (hs : s.node.state = .starting) :
    LineLegal s.endStartingIfDone := by
  unfold State.endStartingIfDone
  split
  · exact enterListen_legal (h.congr (by simp) (by simp)) (by simp [hs, mayTransmitIn])
  · exact h

/-- An entry into STARTING clears the score, the queue and the stage (R53, R57). -/
theorem enterStarting_legal {s : State} (h : LineLegal s) : LineLegal s.enterStarting := by
  have hline : s.enterStarting.line =
      { s.line with queue := .empty, stage := none, access := .noRelease, score := 0, degraded := false } := by
    simp [State.enterStarting]
  rw [lineLegal_iff, hline]
  exact LineOk.setScore (LineOk.discarded h _ (a := .noRelease) nofun) ⟨Nat.zero_le _, nofun, fun _ => Nat.zero_le _⟩

theorem startNode_legal {s : State} (h : LineLegal s) : LineLegal s.startNode := by
  have hentered : LineLegal (s.setStartFault .noFault 0).enterStarting :=
    enterStarting_legal (h.congr (by simp) (by simp))
  exact endStartingIfDone_legal (hentered.congr rfl rfl) (by simp)

theorem restartNode_legal {s : State} (h : LineLegal s) : LineLegal s.restartNode := by
  refine endStartingIfDone_legal ((enterStarting_legal h).congr ?_ ?_) ?_ <;> simp

/-- A clash keeps the line legal (R55, R56). -/
theorem clash_legal {s : State} (h : LineLegal s) : LineLegal s.clash := by
  unfold State.clash
  split
  · rename_i k hk
    obtain ⟨hscore, hcounters, hqueue, hcues, hstage, hsending, hnone⟩ := h
    have hempty := hnone (by rw [hk]; rfl)
    refine ⟨?_, ?_, ?_, ?_, ?_, ?_, fun _ => ?_⟩ <;> simpa
  · exact enterMute_legal (h.congr (by simp) (by simp)) _

/-- The withdrawal of the own waiting replay keeps the line legal (R129). -/
theorem withdrawReplay_legal {s : State} (h : LineLegal s) :
    LineLegal (s.setLine { s.line with queue := { s.line.queue with replayPlace := none } }) := by
  obtain ⟨hscore, hcounters, ⟨hstatus, hfog, hrecall, -, hplaces⟩, hcues, hstage, hsending, hnone⟩ := h
  refine ⟨hscore, hcounters, ⟨hstatus, hfog, hrecall, nofun, hplaces⟩, hcues, hstage, hsending, fun hoff => ?_⟩
  obtain ⟨hempty, hstaged⟩ := hnone hoff
  exact ⟨by simp [hempty, TxQueue.empty], hstaged⟩

/-- A delivered frame keeps the line legal (R52). -/
theorem deliver_legal {s : State} (h : LineLegal s) (f : Frame) : LineLegal (s.deliver f) := by
  unfold State.deliver
  split
  · exact h.congr (by simp) (by simp)
  · exact h.congr (by simp) (by simp)
  · unfold State.deliverCue
    split
    · exact h
    · split
      · have hwithdrawn := withdrawReplay_legal h
        unfold State.acceptReplay
        dsimp only
        split
        · split
          · exact hwithdrawn.congr (by simp) (by simp)
          · exact hwithdrawn.congr (by simp) (by simp)
        · exact hwithdrawn
      · exact h.congr (by simp) (by simp)
  · unfold State.deliverRecall
    split
    · exact offer_legal h _
    · exact h

/-- A valid frame received keeps the line legal (R52, R53, R55). -/
theorem receiveValid_legal {s : State} (h : LineLegal s) (hidle : s.line.access ≠ .sending) (f : Frame) :
    LineLegal (s.receiveValid f) := by
  have hclosed : LineLegal (s.scoreDown.setAccess .closed) :=
    LineOk.setAccess (scoreDown_legal h) nofun (by simpa using hidle)
  unfold State.receiveValid
  dsimp only
  split
  · exact clash_legal hclosed
  · exact deliver_legal hclosed f

/-- A stuck line keeps the line legal (R54). -/
theorem lineStuck_legal {s : State} (h : LineLegal s) : LineLegal s.lineStuck := by
  have hraised : LineLegal (s.raise .lineStuck) := h.congr (by simp) (by simp)
  unfold State.lineStuck
  dsimp only
  split
  · rename_i k hk
    have hoff : mayTransmitIn (s.raise .lineStuck).node.state = false := by simp [hk, mayTransmitIn]
    refine LineOk.setAccess hraised nofun fun hs => ?_
    obtain ⟨-, -, -, -, -, hsending, hnone⟩ := hraised
    obtain ⟨-, hstaged⟩ := hnone hoff
    rw [hsending, hstaged] at hs
    cases hs
  · exact LineOk.setAccess (enterMute_legal hraised _) nofun (enterMute_access _ _)

/-- A composed STATUS keeps the line legal (R19). -/
theorem compose_legal {s : State} (h : LineLegal s) : LineLegal s.compose := by
  obtain ⟨hscore, ⟨-, hserial⟩, hrest⟩ := h
  have hnumbered : LineLegal (s.setLine { s.line with ownSequence := (s.line.ownSequence + 1) % 16 }) :=
    ⟨hscore, ⟨Nat.le_of_lt_succ (Nat.mod_lt _ (by omega)), hserial⟩, hrest⟩
  exact offer_legal hnumbered _

/-- What follows steps 1 and 2 of a period expiry keeps the line legal (R17, R18). -/
theorem finishExpiry_legal {s : State} (h : LineLegal s) : LineLegal s.finishExpiry := by
  unfold State.finishExpiry
  split
  · exact compose_legal h
  · rename_i hlisten
    split
    · have htrue : LineOk true s.line := by
        have hmay : mayTransmitIn s.node.state = true := by rw [hlisten]; rfl
        rwa [lineLegal_iff, hmay] at h
      exact compose_legal (s := s.countExpiry.enterRun) htrue
    · exact h.congr rfl rfl
  · exact h

/-- A period expiry keeps the line legal (R17). -/
theorem expirePeriod_legal {s : State} (h : LineLegal s) : LineLegal s.expirePeriod :=
  finishExpiry_legal (h.congr (by simp) (by simp))

/-- An originated cue keeps the line legal (R123). -/
theorem originate_legal {s : State} (h : LineLegal s) (n : Fin 2) : LineLegal (s.originate n) := by
  obtain ⟨hscore, ⟨hsequence, -⟩, hrest⟩ := h
  have hnumbered : LineLegal (s.setLine { s.line with cueSerial := (s.line.cueSerial + 1) % 256 }) :=
    ⟨hscore, ⟨hsequence, Nat.le_of_lt_succ (Nat.mod_lt _ (by omega))⟩, hrest⟩
  exact offer_legal (hnumbered.congr (by simp) (by simp)) _

/-- The FOG frame that a change of the own state calls for keeps the line legal (R84). -/
theorem offerFogChange_legal {s : State} (h : LineLegal s) (before : FogLevel) : LineLegal (s.offerFogChange before) := by
  unfold State.offerFogChange
  split
  · exact offer_legal h _
  · split
    · exact offer_legal h _
    · exact h

/-- A fog evaluation keeps the line legal. -/
theorem evaluateFog_legal {s : State} (h : LineLegal s) : LineLegal s.evaluateFog := by
  unfold State.evaluateFog
  dsimp only
  split
  · exact h.congr (by simp) (by simp)
  · refine offerFogChange_legal (h.congr ?_ ?_) _ <;> simp

/-- The samples of the cue inputs keep the line legal: a rising edge may originate a cue (R123, R149). -/
theorem sampleInputs_legal {s : State} (h : LineLegal s) (b : Board) : LineLegal (s.sampleInputs b) := by
  have hrise : ∀ {u : State} (before : State) (n : Fin 2), LineLegal u → LineLegal (u.originateOnRise before n) := by
    intro u before n hu
    unfold State.originateOnRise
    split
    · exact originate_legal hu n
    · exact hu
  exact hrise _ 1 (hrise _ 0 (h.congr rfl rfl))

/-- A failed attempt's frame is given back or dropped, and the line stays legal (R42, R43, R45). -/
theorem failAttempt_legal {s : State} (h : LineLegal s) {st : Staged} (hst : s.line.stage = some st) {a : Access}
    (ha : a ≠ .sending) : LineLegal ((s.failAttempt st).setAccess a) := by
  have hstate : ((s.failAttempt st).setAccess a).node.state = s.node.state := by simp
  rw [lineLegal_iff, hstate, State.setAccess, State.setLine_line, failAttempt_line]
  exact LineOk.afterFailure h hst ha

/-- Every case of `Event` keeps the line legal. -/
theorem Event.lineLegal {c : Instr} {s t : State} (hs : LineLegal s) (h : Event c s t) : LineLegal t := by
  cases h with
  | powerOn | pinAssertion =>
    exact ⟨⟨Nat.zero_le _, nofun, fun _ => Nat.zero_le _⟩, ⟨Nat.zero_le _, Nat.zero_le _⟩, .empty, Nat.zero_le _, attempt_of_none,
      ⟨nofun, fun hs => absurd hs Bool.false_ne_true⟩, fun _ => ⟨rfl, rfl⟩⟩
  | start p q hc hunset => exact (startNode_legal (hs.congr (t := s.setPort p) rfl rfl)).congr rfl rfl
  | restart p q hc hop => exact (restartNode_legal (hs.congr (t := s.setPort p) rfl rfl)).congr rfl rfl
  | pulse n p q hop => exact (originate_legal (hs.congr (t := s.setPort p) rfl rfl) n).congr rfl rfl
  | zeroConvert n raw hc hdue =>
    obtain ⟨hstarting, -⟩ := Bool.and_eq_true_iff.mp hdue
    refine endStartingIfDone_legal (hs.congr ?_ ?_) ?_
    all_goals simp [of_decide_eq_true hstarting]
  | expirePeriod hc hop => exact expirePeriod_legal hs
  | receive f hc hv hop hidle => exact receiveValid_legal hs hidle f
  | invalid hcan =>
    obtain ⟨-, hidle⟩ := canReceive_spec hcan
    exact LineOk.setAccess (scoreUp_legal hs) nofun (by simpa using hidle)
  | access a ha hop hidle => exact LineOk.setAccess hs ha hidle
  | slotStart k hop hidle => exact startSlot_legal hs hidle
  | collision st hsend hst => exact failAttempt_legal hs hst nofun
  | disturbance st hsend hst => exact failAttempt_legal (scoreUp_legal hs) (by simpa using hst) nofun
  | wholeSend st hsend hst => exact sendWhole_legal hs hst
  | stuckLine hc hop => exact lineStuck_legal hs
  | stuckLineEnd hc hstuck hidle =>
    have hentered := enterListen_legal hs (by rw [hstuck]; rfl)
    unfold State.endStuckLine
    split
    · exact offer_legal hentered _
    · exact hentered
  | fog hop => exact evaluateFog_legal hs
  | sample b hop => exact sampleInputs_legal hs b
  | _ =>
    refine hs.congr ?_ ?_
    all_goals simp [State.touchPort]

/-- Settles O6: idle steps touch the generators alone, and every case of `Event` keeps the line legal. -/
theorem stepKeepsLineLegal : Obligations.StepKeepsLineLegal :=
  fun _ _ hs h => step_keeps (P := LineLegal) (fun _ _ hs => hs) (fun s hs => hs.congr (by simp) (by simp))
    (fun _ _ _ => Event.lineLegal) hs h

end Sys2Proof.Machine

/-!
PROOFS. The own grants stay within demand, and at 0 outside RUN (O8); the cause record stays legal (O7).
-/
namespace Sys2Proof.Machine

/-! ### What the parts of an expiry do to a loop -/

/-- Step 6 of an evaluation touches the duty of each configured loop alone (R106). -/
theorem writeDuties_loops (s : State) (n : Fin 4) :
    s.writeDuties.heat.loops[n.val] =
      if (s.cfg.loops[n.val]).cls.isSome then
        { s.heat.loops[n.val] with duty := dutyOf (s.cfg.loops[n.val]).design (s.heat.loops[n.val]).grant }
      else s.heat.loops[n.val] := by
  have h : ∀ (t : State) (m : Fin 4), (t.writeDuty m).cfg = t.cfg ∧ (t.writeDuty m).heat.loops[n.val] =
      if m = n ∧ (t.cfg.loops[n.val]).cls.isSome then
        { t.heat.loops[n.val] with duty := dutyOf (t.cfg.loops[n.val]).design (t.heat.loops[n.val]).grant }
      else t.heat.loops[n.val] := by
    intro t m
    unfold State.writeDuty
    split
    · rename_i hm
      refine ⟨by simp, ?_⟩
      simp only [writeValve_frame, State.setHeat_heat, setAt_getElem]
      by_cases e : m = n
      · subst e
        rw [Fin.getElem_fin] at hm
        simp [hm]
      · simp [e, Fin.val_ne_of_ne e]
    · rename_i hm
      refine ⟨rfl, ?_⟩
      by_cases e : m = n
      · subst e
        rw [Fin.getElem_fin] at hm
        simp [hm]
      · simp [e]
  rw [State.writeDuties, show List.finRange 4 = [0, 1, 2, 3] from rfl]
  simp only [List.foldl_cons, List.foldl_nil, h]
  fin_cases n <;> simp

/-- The demand and the grant of a loop stand in step 6 (R106). -/
theorem writeDuties_demand_grant (s : State) (n : Fin 4) :
    (s.writeDuties.heat.loops[n.val]).demand = (s.heat.loops[n.val]).demand ∧
      (s.writeDuties.heat.loops[n.val]).grant = (s.heat.loops[n.val]).grant := by
  rw [writeDuties_loops]
  split <;> exact ⟨rfl, rfl⟩

/-- An own grant is within the demand, and 0 outside RUN (R103 to R105). -/
theorem ownGrant_le (s : State) (n : Fin 4) :
    ownGrant s n ≤ (s.heat.loops[n.val]).demand ∧ (s.node.state ≠ .run → ownGrant s n = 0) := by
  unfold ownGrant demandRecord
  cases hcls : (s.cfg.loops[n]).cls with
  | none => exact ⟨Nat.zero_le _, fun _ => rfl⟩
  | some cls =>
    by_cases hrun : s.node.state = .run
    · simp only [Option.map_some, hrun, if_true]
      exact ⟨grantOf_le_amount _ _ _, fun hnot => absurd rfl hnot⟩
    · simp [hrun]

/-- The demand and the grant of a loop after the share evaluation (R93). -/
theorem evaluateShare_demand_grant (s : State) (n : Fin 4) :
    (s.evaluateShare.heat.loops[n.val]).demand = (s.computeOffer.computeDemands.heat.loops[n.val]).demand ∧
      (s.evaluateShare.heat.loops[n.val]).grant = ownGrant s.computeOffer.computeDemands n := by
  obtain ⟨hdemand, hgrant⟩ := writeDuties_demand_grant s.computeOffer.computeDemands.computeGrants n
  rw [State.evaluateShare, hdemand, hgrant]
  constructor <;> simp [State.computeGrants]

/-! ### Grants -/

/-- The demands stand and so do the grants, and the node does not leave RUN. -/
theorem GrantsLegal.congr {s t : State} (h : GrantsLegal s)
    (hloops : ∀ n : Fin 4, (t.heat.loops[n.val]).demand = (s.heat.loops[n.val]).demand ∧
      (t.heat.loops[n.val]).grant = (s.heat.loops[n.val]).grant) (hstate : t.node.state ≠ .run → s.node.state ≠ .run) :
    GrantsLegal t := by
  intro n
  obtain ⟨hdemand, hgrant⟩ := hloops n
  obtain ⟨hle, hoff⟩ := h n
  rw [hdemand, hgrant]
  exact ⟨hle, fun hnot => hoff (hstate hnot)⟩

/-- The heat record stands, and the node does not leave RUN. -/
theorem GrantsLegal.of_heat {s t : State} (h : GrantsLegal s) (hheat : t.heat = s.heat)
    (hstate : t.node.state ≠ .run → s.node.state ≠ .run) : GrantsLegal t :=
  h.congr (fun _ => by rw [hheat]; exact ⟨rfl, rfl⟩) hstate

/-- Every own grant 0 is legal in every node state (R105). -/
theorem GrantsLegal.of_zero {t : State} (h : ∀ n : Fin 4, (t.heat.loops[n.val]).grant = 0) : GrantsLegal t :=
  fun n => ⟨by rw [h n]; exact Nat.zero_le _, fun _ => h n⟩

/-- An entry into MUTE takes every grant back (R105). -/
theorem enterMute_grants (s : State) (k : MuteKind) : GrantsLegal (s.enterMute k) := by
  obtain ⟨-, -, -, -, -, -, -, hloops, -⟩ := enterMute_entered s k
  exact .of_zero fun n => (hloops n).1

/-- An entry into STARTING takes every grant back (Table 6-2). -/
theorem enterStarting_grants (s : State) (n : Fin 4) : (s.enterStarting.heat.loops[n.val]).grant = 0 := by
  simp [State.enterStarting, LoopLive.atStarting]

/-- A clash takes every grant back, or finds them at 0 in MUTE (R55, R105). -/
theorem clash_grants {s : State} (h : GrantsLegal s) : GrantsLegal s.clash := by
  unfold State.clash
  split
  · rename_i k hk
    exact h.of_heat (by simp) fun _ => by simp [hk]
  · exact enterMute_grants _ _

/-- A stuck line takes every grant back, or finds them at 0 in MUTE (R54, R105). -/
theorem lineStuck_grants {s : State} (h : GrantsLegal s) : GrantsLegal s.lineStuck := by
  unfold State.lineStuck
  dsimp only
  split
  · rename_i k hk
    exact h.of_heat (by simp) fun _ => by simp [hk]
  · have hmuted := enterMute_grants (s.raise .lineStuck) .stuck
    exact hmuted.of_heat (by simp) fun _ => by simp

/-- A period expiry grants within the demands it computes (R93, R104, R105). -/
theorem expirePeriod_grants (s : State) : GrantsLegal s.expirePeriod := by
  intro n
  obtain ⟨hdemand, hgrant⟩ := evaluateShare_demand_grant s n
  obtain ⟨hle, hoff⟩ := ownGrant_le s.computeOffer.computeDemands n
  have hheat : s.expirePeriod.heat = s.evaluateShare.heat := by simp [State.expirePeriod]
  rw [hheat, hdemand, hgrant]
  refine ⟨hle, fun hnot => hoff fun hrun => ?_⟩
  have hstate : s.node.state = .run := by simpa using hrun
  rcases expirePeriod_state s with hkeep | ⟨-, hnew⟩
  · exact hnot (hkeep.trans hstate)
  · exact hnot hnew

/-- A backup judgement leaves demand and grant (R107). -/
theorem judgeBackup_demand_grant (l : LoopLive) (cfg : LoopConfig) :
    (l.judgeBackup cfg).demand = l.demand ∧ (l.judgeBackup cfg).grant = l.grant := by
  unfold LoopLive.judgeBackup
  dsimp only
  (repeat' split) <;> exact ⟨rfl, rfl⟩

/-- Every case of `Event` keeps the grants legal. -/
theorem Event.grantsLegal {c : Instr} {s t : State} (hs : GrantsLegal s) (h : Event c s t) : GrantsLegal t := by
  have hleaves : t.node.state = s.node.state → t.node.state ≠ .run → s.node.state ≠ .run := fun hk hnot => hk ▸ hnot
  cases h with
  | powerOn | pinAssertion =>
    refine .of_zero fun n => ?_
    fin_cases n <;> rfl
  | start p q hc hunset => exact .of_zero fun n => by simp [State.startNode, enterStarting_grants]
  | restart p q hc hop => exact .of_zero fun n => by simp [State.restartNode, enterStarting_grants]
  | zeroConvert n raw hc hdue =>
    obtain ⟨hstarting, -⟩ := Bool.and_eq_true_iff.mp hdue
    exact hs.of_heat (by simp) fun _ => by rw [of_decide_eq_true hstarting]; nofun
  | expirePeriod hc hop => exact expirePeriod_grants s
  | receive f hc hv hop hidle =>
    unfold State.receiveValid
    dsimp only
    split
    · exact clash_grants (hs.of_heat (by simp) fun hnot => by simpa using hnot)
    · exact hs.of_heat (by simp) fun hnot => by simpa using hnot
  | stuckLine hc hop => exact lineStuck_grants hs
  | stuckLineEnd hc hstuck hidle => exact hs.of_heat (by simp) fun _ => by rw [hstuck]; nofun
  | backup hop =>
    refine hs.congr (fun n => ?_) fun hnot => by simpa using hnot
    simpa [State.judgeBackups] using judgeBackup_demand_grant (s.heat.loops[n.val]) s.cfg.loops[n.val]
  | timerRunsOut m hop =>
    refine hs.congr (fun n => ?_) fun hnot => hnot
    rw [State.setHeat_heat, setAt_getElem]
    split
    · rename_i e
      obtain rfl := Fin.ext e
      exact ⟨rfl, rfl⟩
    · exact ⟨rfl, rfl⟩
  | _ =>
    refine hs.of_heat ?_ (hleaves ?_)
    all_goals simp [State.touchPort]

/-- Settles O8: idle steps touch the generators alone, and every case of `Event` keeps the grants legal. -/
theorem stepKeepsGrantsLegal : Obligations.StepKeepsGrantsLegal :=
  fun _ _ hs h => step_keeps (P := GrantsLegal) (fun _ _ hs => hs) (fun _ hs => hs.of_heat rfl fun hnot => hnot)
    (fun _ _ _ => Event.grantsLegal) hs h

end Sys2Proof.Machine

/-!
PROOFS. The cause record stays legal (O7): a raise keeps each entry legal, and every operation changes the record by raises, by clearing
flags or by clearing it whole.
-/
namespace Sys2Proof.Machine

/-- A cause's entry is legal: a count of 0 to 255, at least 1 where the flag is set (R159). -/
def EntryOk (e : CauseEntry) : Prop := e.count ≤ 255 ∧ (e.flag = true → 1 ≤ e.count)

theorem causesLegal_iff (s : State) : CausesLegal s ↔ ∀ i : Fin 12, EntryOk s.node.causes[i.val] := Iff.rfl

/-- An entry raised is legal (R159). -/
theorem raised_ok (e : CauseEntry) : EntryOk e.raised :=
  ⟨Nat.min_le_left _ _, fun _ => Nat.le_min.mpr ⟨by omega, Nat.le_add_left _ _⟩⟩

/-- The cause record stands. -/
theorem CausesLegal.congr {s t : State} (h : CausesLegal s) (hc : t.node.causes = s.node.causes) : CausesLegal t := by
  rw [causesLegal_iff] at h ⊢
  rwa [hc]

/-- A record with every flag clear and every count 0 (R159). -/
theorem CausesLegal.of_clear {t : State} (h : t.node.causes = Vector.replicate 12 .clear) : CausesLegal t := by
  intro i
  rw [h]
  simp [CauseEntry.clear]

/-- A raise keeps the record legal (R159). -/
theorem CausesLegal.raise {s : State} (h : CausesLegal s) (c : Cause) : CausesLegal (s.raise c) := by
  intro i
  rw [raise_causes, setAt_getElem]
  split
  · exact raised_ok _
  · exact h i

theorem CausesLegal.raiseIf {s : State} (h : CausesLegal s) (b : Bool) (c : Cause) : CausesLegal (s.raiseIf b c) := by
  cases b with
  | false => exact h
  | true => exact h.raise c

theorem CausesLegal.raiseTimes {s : State} (h : CausesLegal s) (c : Cause) (n : Nat) : CausesLegal (s.raiseTimes c n) := by
  induction n generalizing s with
  | zero => exact h
  | succ n ih => exact ih (h.raise c)

/-- A rise of the score may raise LINE_DEGRADED (R53). -/
theorem CausesLegal.scoreUp {s : State} (h : CausesLegal s) : CausesLegal s.scoreUp := by
  refine CausesLegal.raiseIf ?_ _ _
  exact h

/-- A refused CUE raises CUE_DROPPED (R46). -/
theorem CausesLegal.offer {s : State} (h : CausesLegal s) (f : TxFrame) : CausesLegal (s.offer f) := by
  unfold State.offer
  split
  · split
    · exact h
    · exact h.raiseIf _ _
  · exact h

/-- A full pending list raises CUE_DROPPED (R120). -/
theorem CausesLegal.actCue {s : State} (h : CausesLegal s) (c : Cue) : CausesLegal (s.actCue c) := by
  unfold State.actCue
  split
  · exact h.congr (by simp)
  · split
    · exact h.congr (by simp)
    · unfold State.offerPending
      split
      · exact h.raise _
      · split
        · exact h
        · exact h

theorem CausesLegal.originate {s : State} (h : CausesLegal s) (n : Fin 2) : CausesLegal (s.originate n) := by
  refine CausesLegal.offer (CausesLegal.actCue ?_ _) _
  exact h

theorem CausesLegal.originateOnRise {s : State} (h : CausesLegal s) (before : State) (n : Fin 2) :
    CausesLegal (s.originateOnRise before n) := by
  unfold State.originateOnRise
  split
  · exact h.originate n
  · exact h

/-- A dropped frame raises the cause of its kind (R45). -/
theorem CausesLegal.failAttempt {s : State} (h : CausesLegal s) (st : Staged) : CausesLegal (s.failAttempt st) := by
  unfold State.failAttempt
  split
  · have hleft : CausesLegal (s.setLine { s.line with stage := none }) := h
    unfold State.raiseDrop
    split
    · exact hleft.raise _
    · exact hleft.raise _
    · exact hleft.raise _
    · exact hleft
    · exact hleft
  · exact h

/-- A delivered frame may raise PEER_OVERFLOW or CUE_DROPPED (R25, R120). -/
theorem CausesLegal.deliver {s : State} (h : CausesLegal s) (f : Frame) : CausesLegal (s.deliver f) := by
  unfold State.deliver
  split
  · unfold State.deliverStatus
    split
    · exact h
    · rename_i c hc
      have hstored : CausesLegal (s.setPeers (peersAfterStatus s.peers f.sender.toNat c)) := h
      exact (hstored.raiseIf (statusOverflows s.peers f.sender.toNat) .peerOverflow).congr (by simp)
  · exact h.congr (by simp)
  · unfold State.deliverCue
    split
    · exact h
    · split
      · exact h.congr (by simp)
      · unfold State.acceptCue
        split
        · dsimp only
          split
          · exact h
          · refine CausesLegal.actCue ?_ _
            exact h
        · exact h
  · unfold State.deliverRecall
    split
    · exact h.offer _
    · exact h

theorem CausesLegal.clash {s : State} (h : CausesLegal s) : CausesLegal s.clash := by
  unfold State.clash
  split
  · exact (h.raise .addressClash).congr rfl
  · exact (h.raise .addressClash).congr (by simp)

theorem CausesLegal.lineStuck {s : State} (h : CausesLegal s) : CausesLegal s.lineStuck := by
  unfold State.lineStuck
  dsimp only
  split
  · exact (h.raise .lineStuck).congr rfl
  · exact (h.raise .lineStuck).congr (by simp)

theorem CausesLegal.enterListen {s : State} (h : CausesLegal s) : CausesLegal s.enterListen := by
  refine CausesLegal.offer ?_ _
  exact h

theorem CausesLegal.endStartingIfDone {s : State} (h : CausesLegal s) : CausesLegal s.endStartingIfDone := by
  unfold State.endStartingIfDone
  split
  · refine CausesLegal.enterListen ?_
    exact h
  · exact h

/-- An entry into STARTING clears the record (R159). -/
theorem enterStarting_causes (s : State) : s.enterStarting.node.causes = Vector.replicate 12 .clear := rfl

theorem startNode_causesLegal (s : State) : CausesLegal s.startNode := by
  unfold State.startNode
  exact CausesLegal.endStartingIfDone (.of_clear (by simp [enterStarting_causes]))

theorem restartNode_causesLegal (s : State) : CausesLegal s.restartNode := by
  unfold State.restartNode
  exact CausesLegal.endStartingIfDone (.of_clear (by simp [enterStarting_causes]))

/-- Each passage of a split counter to 3 raises PHASE_SPLIT (R33). -/
theorem CausesLegal.checkSplit {s : State} (h : CausesLegal s) : CausesLegal s.checkSplit := by
  unfold State.checkSplit
  refine CausesLegal.raiseTimes ?_ _ _
  exact h

/-- Each loop that turns on raises BACKUP_ON (R108). -/
theorem CausesLegal.judgeBackups {s : State} (h : CausesLegal s) : CausesLegal s.judgeBackups := by
  unfold State.judgeBackups
  refine CausesLegal.raiseTimes ?_ _ _
  exact h

theorem CausesLegal.finishExpiry {s : State} (h : CausesLegal s) : CausesLegal s.finishExpiry := by
  unfold State.finishExpiry
  split
  · refine CausesLegal.offer ?_ _
    exact h
  · split
    · refine CausesLegal.offer ?_ _
      exact h
    · exact h
  · exact h

theorem CausesLegal.offerFogChange {s : State} (h : CausesLegal s) (before : FogLevel) :
    CausesLegal (s.offerFogChange before) := by
  unfold State.offerFogChange
  split
  · exact h.offer _
  · split
    · exact h.offer _
    · exact h

/-- What Fog Guard re-derives leaves the record (R78, R85). -/
theorem CausesLegal.rederiveE {s : State} (h : CausesLegal s) : CausesLegal s.rederiveE := h

theorem CausesLegal.rederiveFlood {s : State} (h : CausesLegal s) : CausesLegal s.rederiveFlood := h

theorem CausesLegal.evaluateFog {s : State} (h : CausesLegal s) : CausesLegal s.evaluateFog := by
  have hjudged : CausesLegal (s.setFog (s.fog.evaluate s.cfg.fog (marginInputs s) (readBinding s .fogBeam))) := h
  unfold State.evaluateFog
  dsimp only
  split
  · exact hjudged.raiseIf _ _
  · exact CausesLegal.offerFogChange (hjudged.raiseIf _ _).rederiveE _

theorem CausesLegal.evaluateIce {s : State} (h : CausesLegal s) : CausesLegal s.evaluateIce := by
  unfold State.evaluateIce
  split
  · exact h
  · rename_i r hr
    have hjudged : CausesLegal (s.setIce (s.ice.evaluate s.cfg.ice (iceInputs s r))) := h
    dsimp only
    split
    · exact hjudged.raiseIf _ _
    · exact (hjudged.raiseIf _ _).rederiveFlood

/-- Every case of `Event` keeps the cause record legal. -/
theorem Event.causesLegal {c : Instr} {s t : State} (hs : CausesLegal s) (h : Event c s t) : CausesLegal t := by
  cases h with
  | powerOn | pinAssertion => exact .of_clear rfl
  | start p q hc hunset =>
    exact (startNode_causesLegal (s.setPort p)).congr (by simp)
  | restart p q hc hop =>
    exact (restartNode_causesLegal (s.setPort p)).congr (by simp)
  | ack set p =>
    intro i
    obtain ⟨hcount, hflag⟩ := hs i
    simp only [State.setPort_node, State.setNode_node, mapAt_getElem, CauseEntry.acked]
    split
    · exact ⟨hcount, nofun⟩
    · exact ⟨hcount, hflag⟩
  | pulse n p q hop =>
    have hported : CausesLegal (s.setPort p) := hs
    exact (hported.originate n).congr rfl
  | zeroConvert n raw hc hdue =>
    refine CausesLegal.endStartingIfDone (CausesLegal.raiseIf ?_ _ _)
    exact hs
  | convert n raw hdue =>
    refine CausesLegal.raiseIf ?_ _ _
    exact hs
  | expirePeriod hc hop =>
    have hshare : CausesLegal s.evaluateShare := hs.congr (by simp)
    exact hshare.checkSplit.finishExpiry
  | receive f hc hv hop hidle =>
    have hclosed : CausesLegal (s.scoreDown.setAccess .closed) := hs
    unfold State.receiveValid
    dsimp only
    split
    · exact hclosed.clash
    · exact hclosed.deliver f
  | invalid hcan => exact hs.scoreUp.congr rfl
  | slotStart k hop hidle => exact hs.congr (by simp)
  | collision st hsend hst => exact (hs.failAttempt st).congr rfl
  | disturbance st hsend hst => exact (hs.scoreUp.failAttempt st).congr rfl
  | stuckLine hc hop => exact hs.lineStuck
  | stuckLineEnd hc hstuck hidle =>
    unfold State.endStuckLine
    split
    · exact hs.enterListen.offer _
    · exact hs.enterListen
  | ice hop => exact hs.evaluateIce
  | fog hop => exact hs.evaluateFog
  | backup hop =>
    exact hs.judgeBackups
  | sample b hop =>
    have hsampled : CausesLegal (s.setBoard b).sampleRecords := hs
    exact (hsampled.originateOnRise _ 0).originateOnRise _ 1
  | _ => exact hs.congr (by simp [State.touchPort])

/-- Settles O7: idle steps touch the generators alone, and every case of `Event` keeps the cause record legal. -/
theorem stepKeepsCausesLegal : Obligations.StepKeepsCausesLegal :=
  fun _ _ hs h => step_keeps (P := CausesLegal) (fun _ _ hs => hs) (fun _ hs => hs) (fun _ _ _ => Event.causesLegal) hs h

end Sys2Proof.Machine

/-!
PROOFS. The effective fog level, its outputs and the flood in view stay tied to what they are formed from (O9).
-/
namespace Sys2Proof.Machine

/-- What Fog Guard reads of an entry (R78, R85). -/
def PeerEntry.reports (e : PeerEntry) : FogLevel × Bool := (e.fog, e.flood)

/-- Tables that report the same satisfy the same ties. -/
theorem forall_reports_iff {l m : List PeerEntry} (h : l.map PeerEntry.reports = m.map PeerEntry.reports)
    (P : FogLevel × Bool → Prop) : (∀ e ∈ l, P e.reports) ↔ ∀ e ∈ m, P e.reports := by
  rw [← List.forall_mem_map (P := P), h, List.forall_mem_map]

theorem exists_reports_iff {l m : List PeerEntry} (h : l.map PeerEntry.reports = m.map PeerEntry.reports)
    (P : FogLevel × Bool → Prop) : (∃ e ∈ l, P e.reports) ↔ ∃ e ∈ m, P e.reports := by
  have hmap : ∀ k : List PeerEntry, (∃ e ∈ k, P e.reports) ↔ ∃ r ∈ k.map PeerEntry.reports, P r := fun k => by simp
  rw [hmap, h, ← hmap]

/-- Fog Guard, the entries' reports and the flood timer stand, and the node stays configured as it was. -/
theorem FogLegal.congr {s t : State} (h : FogLegal s) (hfog : t.fog = s.fog)
    (hpeers : t.peers.map PeerEntry.reports = s.peers.map PeerEntry.reports) (htimer : t.ice.floodTimer = s.ice.floodTimer)
    (hcfg : t.node.state ≠ .unset → s.node.state ≠ .unset ∧ t.cfg = s.cfg) : FogLegal t := by
  obtain ⟨hmargin, hown, ⟨hhigh, hentries, hattained⟩, hfan, hflood, hregen⟩ := h
  unfold FogLegal
  rw [hfog, htimer]
  refine ⟨hmargin, hown, ⟨hhigh, ?_, ?_⟩, hfan, ?_, fun hset => ?_⟩
  · exact (forall_reports_iff hpeers fun r => fogCode r.1 ≤ fogCode s.fog.effectiveLevel).mpr hentries
  · exact hattained.imp_right (exists_reports_iff hpeers fun r => r.1 = s.fog.effectiveLevel).mpr
  · rw [hflood]
    exact or_congr_right (exists_reports_iff hpeers fun r => r.2 = true).symm
  · obtain ⟨hbefore, hsame⟩ := hcfg hset
    rw [hsame]
    exact hregen hbefore

/-- Everything Fog Guard's ties read stands. -/
theorem FogLegal.of_same {s t : State} (h : FogLegal s) (hfog : t.fog = s.fog) (hpeers : t.peers = s.peers) (hice : t.ice = s.ice)
    (hstate : t.node.state = s.node.state) (hcfg : t.cfg = s.cfg) : FogLegal t :=
  h.congr hfog (by rw [hpeers]) (by rw [hice]) fun hset => ⟨hstate ▸ hset, hcfg⟩

/-- The same after a move between configured node states. -/
theorem FogLegal.of_move {s t : State} (h : FogLegal s) (hfog : t.fog = s.fog) (hpeers : t.peers = s.peers) (hice : t.ice = s.ice)
    (hcfg : t.cfg = s.cfg) (hset : s.node.state ≠ .unset) : FogLegal t :=
  h.congr hfog (by rw [hpeers]) (by rw [hice]) fun _ => ⟨hset, hcfg⟩

/-- In LISTEN, RUN and MUTE the node is configured. -/
theorem ne_unset_of_operating {s : State} (h : s.operating = true) : s.node.state ≠ .unset := by
  intro hunset
  rw [State.operating, hunset] at h
  cases h

/-- A fan on exactly from ACT upward (R87). -/
theorem fanOf_iff (x : FogLevel) : fanOf x = true ↔ 2 ≤ fogCode x := by cases x <;> decide

/-- The ties after E was re-derived, from those E does not reach (R85 to R87). -/
theorem rederiveE_fogLegal {s : State} (hmargin : s.fog.marginState ≠ .fog) (hown : s.fog.own = .fog ↔ s.fog.beamFog = true)
    (hflood : s.fog.floodInView = true ↔ 0 < s.ice.floodTimer ∨ ∃ e ∈ s.peers, e.flood = true) : FogLegal s.rederiveE :=
  ⟨hmargin, hown, highestFog_spec s.fog.own s.peers, fanOf_iff _, hflood, fun _ => ⟨rfl, rfl⟩⟩

/-- The flood in view as re-derived (R78). -/
theorem rederiveFlood_iff (s : State) :
    s.rederiveFlood.fog.floodInView = true ↔ 0 < s.ice.floodTimer ∨ ∃ e ∈ s.peers, e.flood = true := by
  simp [State.rederiveFlood, IceLive.flood]

/-- A report of the Peer Table re-derives all that reads the entries (R31). -/
theorem reportPeers_fogLegal {s : State} (hmargin : s.fog.marginState ≠ .fog)
    (hown : s.fog.own = .fog ↔ s.fog.beamFog = true) : FogLegal s.reportPeers :=
  rederiveE_fogLegal hmargin hown (rederiveFlood_iff s)

/-- Fog Guard cleared, with an empty table and no flood, satisfies its ties (Table 5-5). -/
theorem FogLegal.of_clear {t : State} (hmargin : t.fog.marginState = .clear) (hown : t.fog.own = .clear)
    (hbeam : t.fog.beamFog = false) (hlevel : t.fog.effectiveLevel = .clear) (hfan : t.fog.fanDemand = false)
    (hview : t.fog.floodInView = false) (hpeers : t.peers = []) (htimer : t.ice.floodTimer = 0)
    (hregen : t.node.state ≠ .unset → t.fog.regen = t.cfg.fog.regen .clear ∧ t.fog.curtail = t.cfg.fog.curtail .clear) :
    FogLegal t := by
  unfold FogLegal
  rw [hmargin, hown, hbeam, hlevel, hfan, hview, hpeers, htimer]
  refine ⟨nofun, ⟨nofun, nofun⟩, ⟨Nat.le_refl _, nofun, .inl rfl⟩, by decide, by simp, hregen⟩

/-- An entry into STARTING clears Fog Guard (Table 5-5). -/
theorem enterStarting_fogLegal (s : State) : FogLegal s.enterStarting :=
  .of_clear rfl rfl rfl rfl rfl rfl rfl rfl fun _ => ⟨rfl, rfl⟩

/-! ### The fog evaluation -/

/-- The hysteresis judgement never gives FOG (Table 5-3). -/
theorem judgeMargin_ne_fog (cfg : FogConfig) (eff : Int) (before : FogLevel) : judgeMargin cfg eff before ≠ .fog := by
  unfold judgeMargin
  (repeat' split) <;> nofun

/-- The judgement without hysteresis never gives FOG (R79). -/
theorem judgePlain_ne_fog (cfg : FogConfig) (eff : Int) : judgePlain cfg eff ≠ .fog := by
  unfold judgePlain
  (repeat' split) <;> nofun

/-- The unavailability floor gives FOG to none (R77). -/
theorem unavailabilityFloor_ne_fog {level : FogLevel} (failures : Nat) (h : level ≠ .fog) :
    unavailabilityFloor failures level ≠ .fog := by
  unfold unavailabilityFloor
  split
  · nofun
  · exact h

theorem marginOnLeaving_ne_fog (cfg : FogConfig) (hasMargin : Bool) (f : FogLive) : marginOnLeaving cfg hasMargin f ≠ .fog := by
  unfold marginOnLeaving
  split
  · exact unavailabilityFloor_ne_fog _ (judgePlain_ne_fog _ _)
  · nofun

/-- Watching for beam fog leaves the margin state (R80). -/
theorem beamWatch_marginState (cfg : FogConfig) (b : Int) (f : FogLive) : (f.beamWatch cfg b).marginState = f.marginState := by
  unfold FogLive.beamWatch
  dsimp only
  (repeat' split) <;> rfl

/-- Leaving beam fog takes the judgement without hysteresis (R81). -/
theorem beamClearing_marginState (cfg : FogConfig) (hasMargin : Bool) (b : Int) (f : FogLive) :
    (f.beamClearing cfg hasMargin b).marginState = marginOnLeaving cfg hasMargin f ∨
      (f.beamClearing cfg hasMargin b).marginState = f.marginState := by
  unfold FogLive.beamClearing
  dsimp only
  generalize (if cfg.beamThreshold + cfg.beamHysteresis ≤ b then f.clearRun + 1 else 0) = run
  split
  · exact .inl rfl
  · exact .inr rfl

/-- The beam step never gives the margin state FOG (R80 to R82). -/
theorem beamStep_marginState_ne_fog {f : FogLive} (h : f.marginState ≠ .fog) (cfg : FogConfig) (hasMargin : Bool)
    (beam : Option Reading) : (f.beamStep cfg hasMargin beam).marginState ≠ .fog := by
  have hleaving := marginOnLeaving_ne_fog cfg hasMargin f
  unfold FogLive.beamStep
  split
  · exact h
  · rename_i r
    split
    · unfold FogLive.beamLost
      dsimp only
      split
      · exact hleaving
      · exact h
    · split
      · rcases beamClearing_marginState cfg hasMargin r.value f with e | e
        · exact e ▸ hleaving
        · exact e ▸ h
      · exact (beamWatch_marginState cfg r.value f) ▸ h

/-- What the beam step leaves of Fog Guard (R80 to R82). -/
theorem beamStep_keeps (cfg : FogConfig) (hasMargin : Bool) (beam : Option Reading) (f : FogLive) :
    (f.beamStep cfg hasMargin beam).floodInView = f.floodInView ∧
      (f.beamStep cfg hasMargin beam).effectiveLevel = f.effectiveLevel ∧ (f.beamStep cfg hasMargin beam).regen = f.regen ∧
      (f.beamStep cfg hasMargin beam).curtail = f.curtail ∧ (f.beamStep cfg hasMargin beam).fanDemand = f.fanDemand := by
  unfold FogLive.beamStep FogLive.beamLost FogLive.beamClearing FogLive.beamWatch
  dsimp only
  (repeat' split) <;> exact ⟨rfl, rfl, rfl, rfl, rfl⟩

/-- Steps 2 to 4 of a fog evaluation: the margin is judged, or is CLEAR without a margin path (R76 to R79). -/
def FogLive.judged (cfg : FogConfig) (margin : Option MarginInputs) (f : FogLive) : FogLive :=
  match margin with
  | some x => f.marginSteps cfg x
  | none => { f with marginState := .clear }

/-- A fog evaluation is the margin steps, the beam step and the own state (R75, R83). -/
theorem fogEvaluate_eq (cfg : FogConfig) (margin : Option MarginInputs) (beam : Option Reading) (f : FogLive) :
    f.evaluate cfg margin beam =
      { (f.judged cfg margin).beamStep cfg margin.isSome beam with
        own := if ((f.judged cfg margin).beamStep cfg margin.isSome beam).beamFog then .fog
          else ((f.judged cfg margin).beamStep cfg margin.isSome beam).marginState } := by
  cases margin <;> rfl

/-- The margin state and the own state after an evaluation (R79, R83). -/
theorem fogEvaluate_own (cfg : FogConfig) (margin : Option MarginInputs) (beam : Option Reading) (f : FogLive) :
    (f.evaluate cfg margin beam).marginState ≠ .fog ∧
      ((f.evaluate cfg margin beam).own = .fog ↔ (f.evaluate cfg margin beam).beamFog = true) := by
  have hjudged : (f.judged cfg margin).marginState ≠ .fog := by
    cases margin with
    | none => nofun
    | some x => exact unavailabilityFloor_ne_fog _ (judgeMargin_ne_fog _ _ _)
  have hmargin := beamStep_marginState_ne_fog hjudged cfg margin.isSome beam
  rw [fogEvaluate_eq]
  refine ⟨hmargin, ?_⟩
  dsimp only
  split
  · rename_i hbeam
    exact ⟨fun _ => hbeam, fun _ => rfl⟩
  · rename_i hbeam
    exact ⟨fun hown => absurd hown hmargin, fun hset => absurd hset hbeam⟩

/-- What an evaluation itself leaves of Fog Guard: E, what follows it and the flood in view. -/
theorem fogEvaluate_keeps (cfg : FogConfig) (margin : Option MarginInputs) (beam : Option Reading) (f : FogLive) :
    (f.evaluate cfg margin beam).floodInView = f.floodInView ∧
      (f.evaluate cfg margin beam).effectiveLevel = f.effectiveLevel ∧ (f.evaluate cfg margin beam).regen = f.regen ∧
      (f.evaluate cfg margin beam).curtail = f.curtail ∧ (f.evaluate cfg margin beam).fanDemand = f.fanDemand := by
  have hbeam := beamStep_keeps cfg margin.isSome beam (f.judged cfg margin)
  rw [fogEvaluate_eq]
  cases margin <;> exact hbeam

/-- A fog evaluation keeps the ties: a change of the own state re-derives E (R83, R85). -/
theorem evaluateFog_fogLegal {s : State} (h : FogLegal s) : FogLegal s.evaluateFog := by
  obtain ⟨hmargin, hown⟩ := fogEvaluate_own s.cfg.fog (marginInputs s) (readBinding s .fogBeam) s.fog
  obtain ⟨hview, hlevel, hregen', hcurtail, hfan'⟩ :=
    fogEvaluate_keeps s.cfg.fog (marginInputs s) (readBinding s .fogBeam) s.fog
  obtain ⟨-, -, hE, hfan, hflood, hregen⟩ := h
  unfold State.evaluateFog
  dsimp only
  split
  · rename_i hsame
    refine ⟨?_, ?_, ?_, ?_, ?_, ?_⟩
    all_goals simp only [raiseIf_frame, State.setFog_fog, State.setFog_peers, State.setFog_ice, State.setFog_cfg,
      State.setFog_node]
    · exact hmargin
    · exact hown
    · rwa [hlevel, hsame]
    · rwa [hlevel, hfan']
    · rwa [hview]
    · rwa [hlevel, hregen', hcurtail]
  · refine FogLegal.of_same (rederiveE_fogLegal (s := State.raiseIf (s.setFog
      (s.fog.evaluate s.cfg.fog (marginInputs s) (readBinding s .fogBeam))) (!s.fog.beamFog &&
        (s.fog.evaluate s.cfg.fog (marginInputs s) (readBinding s .fogBeam)).beamFog) .fogVisible) ?_ ?_ ?_) ?_ ?_ ?_ ?_ ?_
    all_goals simp [hmargin, hown, hview, hflood]

/-- An ice evaluation keeps the ties: a beginning or end of the flood re-derives the flood in view (R78). -/
theorem evaluateIce_fogLegal {s : State} (h : FogLegal s) : FogLegal s.evaluateIce := by
  unfold State.evaluateIce
  split
  · exact h
  · rename_i r hr
    obtain ⟨hmargin, hown, hE, hfan, hflood, hregen⟩ := h
    dsimp only
    split
    · rename_i hsame
      refine ⟨?_, ?_, ?_, ?_, ?_, ?_⟩
      all_goals simp only [raiseIf_frame, State.setIce_fog, State.setIce_peers, State.setIce_ice, State.setIce_cfg, State.setIce_node]
      · exact hmargin
      · exact hown
      · exact hE
      · exact hfan
      · have htimer : 0 < (s.ice.evaluate s.cfg.ice (iceInputs s r)).floodTimer ↔ 0 < s.ice.floodTimer := by
          simpa [IceLive.flood] using hsame.symm
        rwa [htimer]
      · exact hregen
    · refine ⟨?_, ?_, ?_, ?_, rederiveFlood_iff _, ?_⟩
      all_goals simp only [State.rederiveFlood, State.setFog_fog, State.setFog_peers, State.setFog_cfg, State.setFog_node, raiseIf_frame,
        State.setIce_fog, State.setIce_peers, State.setIce_cfg, State.setIce_node]
      · exact hmargin
      · exact hown
      · exact hE
      · exact hfan
      · exact hregen

/-! ### The invariant -/

/-- A START and a RESTART end with Fog Guard cleared (R155, R158). -/
theorem startNode_fogLegal (s : State) : FogLegal s.startNode := by
  refine (enterStarting_fogLegal (s.setStartFault .noFault 0)).of_move ?_ ?_ ?_ ?_ ?_
  all_goals simp [State.startNode]

theorem restartNode_fogLegal (s : State) : FogLegal s.restartNode := by
  refine (enterStarting_fogLegal s).of_move ?_ ?_ ?_ ?_ ?_
  all_goals simp [State.restartNode]

/-- A delivered frame keeps the ties: what changes of an entry's reports is reported (R31). -/
theorem deliver_fogLegal {s : State} (h : FogLegal s) (f : Frame) : FogLegal (s.deliver f) := by
  obtain ⟨hmargin, hown, -⟩ := id h
  unfold State.deliver
  split
  · unfold State.deliverStatus
    split
    · exact h
    · exact reportPeers_fogLegal (by simpa using hmargin) (by simpa using hown)
  · unfold State.deliverFog
    split
    · exact h
    · exact reportPeers_fogLegal hmargin hown
  · unfold State.deliverCue
    split
    · exact h
    · rename_i c hc
      split
      · exact h.of_same (by simp) (by simp) (by simp) (by simp) (by simp)
      · unfold State.acceptCue
        split
        · have hreports : (updateEntry s.peers c.origin fun e => { e with lastCueSerial := some c.serial }).map
              PeerEntry.reports = s.peers.map PeerEntry.reports := by
            rw [updateEntry, List.map_map]
            refine List.map_congr_left fun e _ => ?_
            simp only [Function.comp_apply]
            split <;> rfl
          dsimp only
          split
          · exact h.congr rfl hreports rfl fun hset => ⟨hset, rfl⟩
          · exact h.congr (by simp) (by simpa using hreports) (by simp) fun hset => ⟨by simpa using hset, by simp⟩
        · exact h
  · exact h.of_same (by simp) (by simp) (by simp) (by simp) (by simp)

/-- Every case of `Event` keeps Fog Guard's ties. -/
theorem Event.fogLegal {c : Instr} {s t : State} (hs : FogLegal s) (h : Event c s t) : FogLegal t := by
  cases h with
  | powerOn | pinAssertion => exact .of_clear rfl rfl rfl rfl rfl rfl rfl rfl fun hset => absurd rfl hset
  | write p w d cfg clamped hc hunset hw => exact hs.congr rfl rfl rfl fun hset => absurd hunset hset
  | start p q hc hunset =>
    exact (startNode_fogLegal (s.setPort p)).of_same (by simp) (by simp) (by simp) (by simp) (by simp)
  | restart p q hc hop =>
    exact (restartNode_fogLegal (s.setPort p)).of_same (by simp) (by simp) (by simp) (by simp) (by simp)
  | zeroConvert n raw hc hdue =>
    obtain ⟨hstarting, -⟩ := Bool.and_eq_true_iff.mp hdue
    exact hs.of_move (by simp) (by simp) (by simp) (by simp) (by simp [of_decide_eq_true hstarting])
  | expirePeriod hc hop =>
    refine hs.congr (by simp) ?_ (by simp) fun _ => ⟨ne_unset_of_operating hop, by simp⟩
    rw [expirePeriod_peers, List.map_map]
    rfl
  | agePeers hop =>
    obtain ⟨hmargin, hown, -⟩ := hs
    exact reportPeers_fogLegal hmargin hown
  | receive f hc hv hop hidle =>
    have hset := ne_unset_of_operating hop
    unfold State.receiveValid
    dsimp only
    split
    · exact hs.of_move (by simp) (by simp) (by simp) (by simp) hset
    · exact deliver_fogLegal (hs.of_move (by simp) (by simp) (by simp) (by simp) hset) f
  | stuckLine hc hop => exact hs.of_move (by simp) (by simp) (by simp) (by simp) (ne_unset_of_operating hop)
  | stuckLineEnd hc hstuck hidle => exact hs.of_move (by simp) (by simp) (by simp) (by simp) (by simp [hstuck])
  | ice hop => exact evaluateIce_fogLegal hs
  | fog hop => exact evaluateFog_fogLegal hs
  | _ =>
    refine hs.of_same ?_ ?_ ?_ ?_ ?_
    all_goals simp [State.touchPort]

/-- Settles O9: idle steps touch the generators alone, and every case of `Event` keeps the ties. -/
theorem stepKeepsFogLegal : Obligations.StepKeepsFogLegal :=
  fun _ _ hs h => step_keeps (P := FogLegal) (fun _ _ hs => hs) (fun _ hs => hs) (fun _ _ _ => Event.fogLegal) hs h

end Sys2Proof.Machine

/-!
PROOFS. Configuration stays within its ranges (O13): the power-on values are in range, and a write clamps or refuses what is not.
-/
namespace Sys2Proof.Machine

/-! ### Clamped fields -/

/-- A clamped number stands within its range (R167). -/
theorem clampNat_mem {lo hi : Nat} (h : lo ≤ hi) (v : Nat) : lo ≤ (clampNat lo hi v).1 ∧ (clampNat lo hi v).1 ≤ hi := by
  simp only [clampNat]
  omega

theorem clampField_mem {lo hi : Int} (h : lo ≤ hi) (v : Int) : lo ≤ (clampField lo hi v).1 ∧ (clampField lo hi v).1 ≤ hi := by
  simp only [clampField, clamp]
  omega

theorem clampSigned_mem {lo hi : Int} (h : lo ≤ hi) (v : Nat) :
    lo ≤ (clampSigned lo hi v).1 ∧ (clampSigned lo hi v).1 ≤ hi := clampField_mem h _

theorem clampPlain_mem {lo hi : Int} (h : lo ≤ hi) (v : Nat) :
    lo ≤ (clampPlain lo hi v).1 ∧ (clampPlain lo hi v).1 ≤ hi := clampField_mem h _

/-- A level field gives KEEP or a level of 0 to 1000 (Table 12-9). -/
theorem levelOfField_le {v l : Nat} (h : (levelOfField v).1 = some l) : l ≤ 1000 := by
  unfold levelOfField at h
  split at h
  · cases h
  · cases h
    exact Nat.min_le_left _ _

/-! ### Power-on values -/

theorem sceneLegal_powerOn : SceneLegal .powerOn :=
  ⟨fun n l h => by simp [Scene.powerOn] at h, by decide, by decide⟩

theorem fogConfigLegal_powerOn : FogConfigLegal .powerOn :=
  ⟨by decide, by decide, by decide, by decide, by decide, by decide, by decide, by decide,
    fun e => by cases e <;> decide, fun e => by cases e <;> decide⟩

/-- Every field's power-on value is in its range (Tables 1-7 to 7-1). -/
theorem configLegal_powerOn : ConfigLegal .powerOn := by
  refine ⟨by decide, fun n => ?_, by decide, fun n => ?_, ?_, fogConfigLegal_powerOn, fun n => ?_, fun n => ?_, fun n => ?_, fun n => ?_⟩
  · simp [Configuration.powerOn, ChannelConfigLegal, ChannelConfig.powerOn]
  · simp [Configuration.powerOn, LoopConfigLegal, SetpointLegal, LoopConfig.powerOn]
  · simp [Configuration.powerOn, IceConfigLegal, CeilingLegal, IceConfig.powerOn]
  · simp [Configuration.powerOn]
  · simpa [Configuration.powerOn] using sceneLegal_powerOn
  · simp [Configuration.powerOn, CueMapEntry.powerOn]
  · simp [Configuration.powerOn, CueInputConfig.powerOn]

/-! ### Writes -/

/-- An entry of a vector after one of its entries was written satisfies what the old and the new ones do. -/
theorem setAt_forall {α : Type} {n : Nat} {P : α → Prop} {v : Vector α n} {i : Fin n} {x : α} (hv : ∀ j : Fin n, P v[j.val])
    (hx : P x) (j : Fin n) : P (setAt v i x)[j.val] := by
  rw [setAt_getElem]
  split
  · exact hx
  · exact hv j

/-- The same where four entries were written. -/
theorem setFour_forall {α : Type} {n : Nat} {P : α → Prop} {v : Vector α n} {index : Fin 4 → Fin n} {x : Vector α 4}
    (hv : ∀ j : Fin n, P v[j.val]) (hx : ∀ j : Fin 4, P x[j.val]) (j : Fin n) : P (setFour v index x)[j.val] :=
  setAt_forall (setAt_forall (setAt_forall (setAt_forall hv (hx 0)) (hx 1)) (hx 2)) (hx 3) j

/-- Four records are listed values where each is (R167). -/
theorem allFour_eq_some {α : Type} {f : Fin 4 → Option α} {x : Vector α 4} (h : allFour f = some x) (j : Fin 4) :
    f j = some x[j.val] := by
  unfold allFour at h
  split at h
  · rename_i a b c d ha hb hc hd
    cases h
    fin_cases j
    · exact ha
    · exact hb
    · exact hc
    · exact hd
  · cases h

theorem writeNode_legal {d : Nat} {cfg cfg' : Configuration} {clamped : Bool} (h : ConfigLegal cfg)
    (hw : writeNode d cfg = some (cfg', clamped)) : ConfigLegal cfg' := by
  obtain ⟨phase, -, e⟩ := Option.map_eq_some_iff.mp hw
  cases e
  obtain ⟨-, hrest⟩ := h
  exact ⟨⟨(clampNat_mem (by decide) _).2, (clampNat_mem (by decide) _).2, (clampNat_mem (by decide) _).2⟩, hrest⟩

theorem writeMeasure_legal {n : Fin 12} {d : Nat} {cfg cfg' : Configuration} {clamped : Bool} (h : ConfigLegal cfg)
    (hw : writeMeasure n d cfg = some (cfg', clamped)) : ConfigLegal cfg' := by
  obtain ⟨hnode, hchannels, hrest⟩ := h
  unfold writeMeasure at hw
  split at hw
  · cases hw
    exact ⟨hnode, setAt_forall hchannels ⟨clampSigned_mem (by decide) _, clampNat_mem (by decide) _, (clampNat_mem (by decide) _).2⟩,
      hrest⟩
  · cases hw

theorem writeSource_legal {d : Nat} {cfg cfg' : Configuration} {clamped : Bool} (h : ConfigLegal cfg)
    (hw : writeSource d cfg = some (cfg', clamped)) : ConfigLegal cfg' := by
  obtain ⟨hnode, hchannels, -, hrest⟩ := h
  cases hw
  exact ⟨hnode, hchannels, ⟨clampNat_mem (by decide) _, (clampNat_mem (by decide) _).2⟩, hrest⟩

theorem writeLoop_legal {n : Fin 4} {d : Nat} {cfg cfg' : Configuration} {clamped : Bool} (h : ConfigLegal cfg)
    (hw : writeLoop n d cfg = some (cfg', clamped)) : ConfigLegal cfg' := by
  obtain ⟨hnode, hchannels, hsource, hloops, hrest⟩ := h
  unfold writeLoop at hw
  split at hw
  · cases hw
    have hset : ∀ v : Nat, SetpointLegal (clampSigned (-500) 1000 v).1 := clampSigned_mem (by decide)
    exact ⟨hnode, hchannels, hsource, setAt_forall hloops ⟨(clampNat_mem (by decide) _).2, ⟨hset _, hset _, hset _, hset _, hset _⟩,
      clampNat_mem (by decide) _, (clampNat_mem (by decide) _).2, (clampNat_mem (by decide) _).2, (clampNat_mem (by decide) _).2⟩, hrest⟩
  · cases hw

theorem writeIce_legal {d : Nat} {cfg cfg' : Configuration} {clamped : Bool} (h : ConfigLegal cfg)
    (hw : writeIce d cfg = some (cfg', clamped)) : ConfigLegal cfg' := by
  obtain ⟨hnode, hchannels, hsource, hloops, -, hrest⟩ := h
  have hceil : ∀ v : Nat, CeilingLegal (clampSigned (-200) 50 v).1 := clampSigned_mem (by decide)
  cases hw
  exact ⟨hnode, hchannels, hsource, hloops, ⟨⟨hceil _, hceil _, hceil _, hceil _, hceil _⟩, clampPlain_mem (by decide) _,
    (clampNat_mem (by decide) _).2, clampSigned_mem (by decide) _, clampSigned_mem (by decide) _, (clampNat_mem (by decide) _).2,
    clampPlain_mem (by decide) _, clampNat_mem (by decide) _⟩, hrest⟩

theorem writeFog_legal {d : Nat} {cfg cfg' : Configuration} {clamped : Bool} (h : ConfigLegal cfg)
    (hw : writeFog d cfg = some (cfg', clamped)) : ConfigLegal cfg' := by
  obtain ⟨hnode, hchannels, hsource, hloops, hice, -, hrest⟩ := h
  have hlevel : ∀ v : Nat, (clampNat 0 1000 v).1 ≤ 1000 := fun v => (clampNat_mem (by decide) v).2
  cases hw
  exact ⟨hnode, hchannels, hsource, hloops, hice, ⟨clampSigned_mem (by decide) _, clampSigned_mem (by decide) _,
    clampPlain_mem (by decide) _, clampPlain_mem (by decide) _, clampPlain_mem (by decide) _, clampPlain_mem (by decide) _,
    clampNat_mem (by decide) _, clampNat_mem (by decide) _, fun e => by cases e <;> exact hlevel _,
    fun e => by cases e <;> exact hlevel _⟩, hrest⟩

theorem writeLight_legal {n : Fin 8} {d : Nat} {cfg cfg' : Configuration} {clamped : Bool} (h : ConfigLegal cfg)
    (hw : writeLight n d cfg = some (cfg', clamped)) : ConfigLegal cfg' := by
  obtain ⟨hnode, hchannels, hsource, hloops, hice, hfog, hcoefficients, hrest⟩ := h
  cases hw
  exact ⟨hnode, hchannels, hsource, hloops, hice, hfog,
    setAt_forall (P := fun x => x ≤ 500) hcoefficients (clampNat_mem (by decide) _).2, hrest⟩

/-- The scene of any SCENE data is legal (R113). -/
theorem sceneOfData_legal (d : Nat) : SceneLegal (sceneOfData d).1 := by
  refine ⟨fun n l hl => levelOfField_le (v := sceneLevelField d n) ?_, clampNat_mem (by decide) _, clampNat_mem (by decide) _⟩
  simpa [sceneOfData] using hl

theorem writeScene_legal {d : Nat} {cfg cfg' : Configuration} {clamped : Bool} (h : ConfigLegal cfg)
    (hw : writeScene d cfg = some (cfg', clamped)) : ConfigLegal cfg' := by
  obtain ⟨k, -, e⟩ := Option.map_eq_some_iff.mp hw
  cases e
  obtain ⟨hnode, hchannels, hsource, hloops, hice, hfog, hcoefficients, hscenes, hrest⟩ := h
  exact ⟨hnode, hchannels, hsource, hloops, hice, hfog, hcoefficients, setAt_forall hscenes (sceneOfData_legal d), hrest⟩

theorem writeCueMap_legal {i : Fin 16} {d : Nat} {cfg cfg' : Configuration} {clamped : Bool} (h : ConfigLegal cfg)
    (hw : writeCueMap i d cfg = some (cfg', clamped)) : ConfigLegal cfg' := by
  obtain ⟨x, hx, e⟩ := Option.map_eq_some_iff.mp hw
  cases e
  obtain ⟨hnode, hchannels, hsource, hloops, hice, hfog, hcoefficients, hscenes, hmap, hinputs⟩ := h
  refine ⟨hnode, hchannels, hsource, hloops, hice, hfog, hcoefficients, hscenes,
    setFour_forall (P := fun y : CueMapEntry => y.cue ≤ 255) hmap fun j => ?_, hinputs⟩
  obtain ⟨k, -, e⟩ := Option.map_eq_some_iff.mp (allFour_eq_some hx j)
  rw [← e]
  have hcue := field_lt d (63 - 16 * j.val) (56 - 16 * j.val)
  have hwidth : 63 - 16 * j.val + 1 - (56 - 16 * j.val) = 8 := by omega
  rw [hwidth] at hcue
  exact Nat.le_of_lt_succ hcue

theorem writePins_legal {i : Fin 6} {d : Nat} {cfg cfg' : Configuration} {clamped : Bool} (h : ConfigLegal cfg)
    (hw : writePins i d cfg = some (cfg', clamped)) : ConfigLegal cfg' := by
  obtain ⟨x, -, e⟩ := Option.map_eq_some_iff.mp hw
  cases e
  exact h

theorem writeCueIn_legal {n : Fin 2} {d : Nat} {cfg cfg' : Configuration} {clamped : Bool} (h : ConfigLegal cfg)
    (hw : writeCueIn n d cfg = some (cfg', clamped)) : ConfigLegal cfg' := by
  obtain ⟨phase, -, e⟩ := Option.map_eq_some_iff.mp hw
  cases e
  obtain ⟨hnode, hchannels, hsource, hloops, hice, hfog, hcoefficients, hscenes, hmap, hinputs⟩ := h
  exact ⟨hnode, hchannels, hsource, hloops, hice, hfog, hcoefficients, hscenes, hmap,
    setAt_forall (P := fun y : CueInputConfig => y.number ≤ 255 ∧ y.wait ≤ 600 ∧ y.fade ≤ 600) hinputs
      ⟨Nat.le_of_lt_succ (field_lt d 47 40), (clampNat_mem (by decide) _).2, (clampNat_mem (by decide) _).2⟩⟩

/-- A write of any window keeps configuration in range (R167). -/
theorem writeWindow_legal {w : Window} {d : Nat} {cfg cfg' : Configuration} {clamped : Bool} (h : ConfigLegal cfg)
    (hw : writeWindow w d cfg = some (cfg', clamped)) : ConfigLegal cfg' := by
  cases w with
  | node => exact writeNode_legal h hw
  | measure n => exact writeMeasure_legal h hw
  | source => exact writeSource_legal h hw
  | loop n => exact writeLoop_legal h hw
  | ice => exact writeIce_legal h hw
  | fog => exact writeFog_legal h hw
  | light n => exact writeLight_legal h hw
  | scene => exact writeScene_legal h hw
  | cueMap i => exact writeCueMap_legal h hw
  | pins i => exact writePins_legal h hw
  | cueIn n => exact writeCueIn_legal h hw
  | ident | snap _ | peer _ | action _ => cases hw

/-- Every case of `Event` keeps configuration in range. -/
theorem Event.configLegal {c : Instr} {s t : State} (hs : ConfigLegal s.cfg) (h : Event c s t) : ConfigLegal t.cfg := by
  cases h with
  | powerOn | pinAssertion => exact configLegal_powerOn
  | write p w d cfg clamped hc hunset hw => exact writeWindow_legal hs hw
  | _ => simpa [State.touchPort] using hs

/-- Settles O13: a write clamps or refuses, the resets take the power-on values, and nothing else touches configuration. -/
theorem stepKeepsConfigLegal : Obligations.StepKeepsConfigLegal :=
  fun _ _ hs h => step_keeps (P := fun s => ConfigLegal s.cfg) (fun _ _ hs => hs) (fun _ hs => hs)
    (fun _ _ _ => Event.configLegal) hs h

end Sys2Proof.Machine

/-!
PROOFS. The caps stay between the light floor and 1000, and the pending cue list stays legal (O10).
-/
namespace Sys2Proof.Machine

/-! ### Caps -/

/-- The own cap is at most 1000 (R69). -/
theorem ownCap_le {cfg : IceConfig} (h : cfg.floor ≤ 1000) (failures : Nat) (state : IceState) (predicted : Int) :
    ownCap cfg failures state predicted ≤ 1000 := by
  unfold ownCap
  split
  · exact h
  · split
    · exact h
    · split
      · exact Nat.le_refl _
      · split
        · exact h
        · rename_i hupper hlower
          have hspan : 0 < cfg.upper - cfg.lower := by omega
          have hpart : floorDiv ((1000 - (cfg.floor : Int)) * (predicted - cfg.lower)) (cfg.upper - cfg.lower) ≤ 1000 - cfg.floor := by
            rw [floorDiv, Int.fdiv_eq_ediv_of_nonneg _ hspan.le]
            refine Int.ediv_le_of_le_mul hspan ?_
            exact Int.mul_le_mul_of_nonneg_left (by omega) (by omega)
          omega

/-- The cap after an evaluation is the own cap of R69. -/
theorem iceEvaluate_cap_le {cfg : IceConfig} (h : cfg.floor ≤ 1000) (x : IceInputs) (i : IceLive) :
    (i.evaluate cfg x).cap ≤ 1000 := ownCap_le h _ _ _

/-- The target cap stands between the light floor and 1000 where the counted caps do not exceed 1000 (R126). -/
theorem targetCapOf_mem {floor : Nat} {caps : List Nat} (hfloor : floor ≤ 1000) (h : ∀ c ∈ caps, c ≤ 1000) :
    floor ≤ targetCapOf floor caps ∧ targetCapOf floor caps ≤ 1000 := by
  cases caps with
  | nil => exact ⟨hfloor, Nat.le_refl _⟩
  | cons c rest => exact ⟨Nat.le_max_left _ _, Nat.max_le.mpr ⟨hfloor, h _ (minOf_mem c rest)⟩⟩

/-- The slewed cap stands between the bounds that it and the target keep (R127). -/
theorem slew_mem {floor cap target : Nat} (hcap : floor ≤ cap ∧ cap ≤ 1000) (htarget : floor ≤ target ∧ target ≤ 1000) :
    floor ≤ slew cap target ∧ slew cap target ≤ 1000 := by
  unfold slew
  split <;> omega

/-- The two floors of configuration are at most 1000 (Tables 2-1, 4-1). -/
def FloorsLegal (cfg : Configuration) : Prop := cfg.node.lightFloor ≤ 1000 ∧ cfg.ice.floor ≤ 1000

/-- A write leaves the NODE and ICE records, or clamps the one it writes (R167). -/
theorem writeWindow_floors {w : Window} {d : Nat} {cfg cfg' : Configuration} {clamped : Bool} (h : FloorsLegal cfg)
    (hw : writeWindow w d cfg = some (cfg', clamped)) : FloorsLegal cfg' := by
  obtain ⟨hlight, hice⟩ := h
  cases w with
  | node =>
    obtain ⟨phase, -, e⟩ := Option.map_eq_some_iff.mp hw
    cases e
    exact ⟨(clampNat_mem (by decide) _).2, hice⟩
  | ice =>
    cases hw
    exact ⟨hlight, (clampNat_mem (by decide) _).2⟩
  | source | fog | light n =>
    cases hw
    exact ⟨hlight, hice⟩
  | measure n =>
    simp only [writeWindow, writeMeasure] at hw
    split at hw
    · cases hw
      exact ⟨hlight, hice⟩
    · cases hw
  | loop n =>
    simp only [writeWindow, writeLoop] at hw
    split at hw
    · cases hw
      exact ⟨hlight, hice⟩
    · cases hw
  | scene | cueMap i | pins i | cueIn n =>
    obtain ⟨x, -, e⟩ := Option.map_eq_some_iff.mp hw
    cases e
    exact ⟨hlight, hice⟩
  | ident | snap _ | peer _ | action _ => cases hw

/-- The target cap and the slewed cap. -/
def LightLive.caps (l : LightLive) : Nat × Nat := (l.targetCap, l.slewedCap)

/-- The floors, the own cap and both caps of the Lighting Engine stand, and the node does not enter UNSET. -/
theorem CapsLegal.congr {s t : State} (h : CapsLegal s) (hcfg : t.cfg = s.cfg) (hcap : t.ice.cap ≤ 1000)
    (hcaps : t.light.caps = s.light.caps) (hstate : t.node.state = .unset → s.node.state = .unset) : CapsLegal t := by
  obtain ⟨hfloors, -, htarget', hslewed', hunset⟩ := h
  obtain ⟨htarget, hslewed⟩ := Prod.mk.inj hcaps
  unfold CapsLegal
  rw [hcfg, htarget, hslewed]
  exact ⟨hfloors, hcap, htarget', hslewed', fun hu => hunset (hstate hu)⟩

/-- Both caps at 1000 are legal over legal floors (R124, R127). -/
theorem CapsLegal.of_open {t : State} (hfloors : FloorsLegal t.cfg) (hcap : t.ice.cap ≤ 1000)
    (hcaps : t.light.caps = (1000, 1000)) : CapsLegal t := by
  obtain ⟨htarget, hslewed⟩ := Prod.mk.inj hcaps
  unfold CapsLegal
  rw [htarget, hslewed]
  obtain ⟨hlight, hice⟩ := hfloors
  exact ⟨⟨hlight, hice⟩, hcap, ⟨hlight, Nat.le_refl _⟩, ⟨hlight, Nat.le_refl _⟩, fun _ => ⟨rfl, rfl⟩⟩

theorem CapsLegal.floors {s : State} (h : CapsLegal s) : FloorsLegal s.cfg := h.1

/-- A cap step on a legal peer table (R126, R127). -/
theorem capStep_capsLegal {s : State} (hp : PeersLegal s) (h : CapsLegal s) (hop : s.operating = true) : CapsLegal s.capStep := by
  obtain ⟨⟨hlight, hice⟩, hcap, -, hslewed, -⟩ := h
  obtain ⟨-, -, hentries, -⟩ := hp
  have hcounted : ∀ c ∈ countedCaps s, c ≤ 1000 := by
    intro c hc
    rcases mem_countedCaps.mp hc with ⟨-, rfl⟩ | ⟨e, he, hec⟩
    · exact hcap
    · obtain ⟨-, -, -, -, hpeer, -⟩ := hentries e he
      exact hpeer c hec
  have htarget := targetCapOf_mem hlight hcounted
  exact ⟨⟨hlight, hice⟩, hcap, htarget, slew_mem hslewed htarget, fun hu => absurd hu (ne_unset_of_operating hop)⟩

/-- An ice evaluation leaves a cap of at most 1000 (R69). -/
theorem evaluateIce_cap_le {s : State} (h : CapsLegal s) : s.evaluateIce.ice.cap ≤ 1000 := by
  obtain ⟨⟨-, hice⟩, hcap, -⟩ := h
  unfold State.evaluateIce
  split
  · exact hcap
  · rename_i r hr
    dsimp only
    split
    · simpa using iceEvaluate_cap_le hice (iceInputs s r) s.ice
    · simpa using iceEvaluate_cap_le hice (iceInputs s r) s.ice

/-! ### Where UNSET is entered -/

/-- No operation but the resets enters UNSET (Table 10-1). -/
theorem zeroConvert_unset {s : State} {n : Fin 12} {raw : Counts} (h : (s.zeroConvert n raw).node.state = .unset) :
    s.node.state = .unset := by
  rcases zeroConvert_state s n raw with e | e
  · exact e ▸ h
  · rw [e] at h
    cases h

theorem expirePeriod_unset {s : State} (h : s.expirePeriod.node.state = .unset) : s.node.state = .unset := by
  rcases expirePeriod_state s with e | ⟨-, e⟩
  · exact e ▸ h
  · rw [e] at h
    cases h

theorem receiveValid_unset {s : State} {f : Frame} (h : (s.receiveValid f).node.state = .unset) : s.node.state = .unset := by
  rcases receiveValid_state s f with e | e
  · exact e ▸ h
  · rw [e] at h
    cases h

theorem lineStuck_unset {s : State} (hop : s.operating = true) (h : s.lineStuck.node.state = .unset) : s.node.state = .unset := by
  rcases lineStuck_state s hop with e | ⟨-, e⟩
  · exact e ▸ h
  · rw [e] at h
    cases h

theorem endStuckLine_ne_unset (s : State) : s.endStuckLine.node.state ≠ .unset := by
  rw [endStuckLine_state]
  nofun

theorem startNode_ne_unset (s : State) : s.startNode.node.state ≠ .unset := by
  rcases startNode_state s with e | e <;> rw [e] <;> nofun

theorem restartNode_ne_unset (s : State) : s.restartNode.node.state ≠ .unset := by
  rcases restartNode_state s with e | e <;> rw [e] <;> nofun

/-! ### Where the caps stand -/

/-- An entry into LISTEN clears the take marker and leaves the rest of the lighting (R128). -/
@[simp] theorem enterListen_light (s : State) : s.enterListen.light = { s.light with takeMarker := false } := by
  simp [State.enterListen]

/-- The end of STARTING touches the take marker of the lighting alone (R128, R156). -/
theorem endStartingIfDone_light {s : State} {l : LightLive} (h : s.light = l) :
    ∃ m, s.endStartingIfDone.light = { l with takeMarker := m } := by
  subst h
  unfold State.endStartingIfDone
  split
  · exact ⟨false, by simp [State.endStarting]⟩
  · exact ⟨_, rfl⟩

theorem zeroConvert_light (s : State) (n : Fin 12) (raw : Counts) :
    ∃ m, (s.zeroConvert n raw).light = { s.light with takeMarker := m } := by
  unfold State.zeroConvert
  exact endStartingIfDone_light (by simp)

theorem endStuckLine_light (s : State) : s.endStuckLine.light = { s.light with takeMarker := false } := by
  unfold State.endStuckLine
  split <;> simp

theorem zeroConvert_caps (s : State) (n : Fin 12) (raw : Counts) : (s.zeroConvert n raw).light.caps = s.light.caps := by
  obtain ⟨m, h⟩ := zeroConvert_light s n raw
  rw [h]
  rfl

theorem endStuckLine_caps (s : State) : s.endStuckLine.light.caps = s.light.caps := by
  rw [endStuckLine_light]
  rfl

theorem receiveValid_caps (s : State) (f : Frame) : (s.receiveValid f).light.caps = s.light.caps := by
  unfold State.receiveValid State.deliver
  dsimp only
  (repeat' split) <;> simp [LightLive.caps]

theorem sampleInputs_caps (s : State) (b : Board) : (s.sampleInputs b).light.caps = s.light.caps := by
  unfold State.sampleInputs State.originateOnRise
  (repeat' split) <;> simp [LightLive.caps, State.sampleRecords, State.setBoard]

/-- What an entry into STARTING makes of the Lighting Engine and of Ice Watch (Tables 4-3, 7-1). -/
@[simp] theorem enterStarting_light (s : State) : s.enterStarting.light = s.light.atStarting := rfl

@[simp] theorem enterStarting_ice (s : State) : s.enterStarting.ice = s.ice.atStarting := rfl

/-- The lighting after a START: cleared but for the fades, with the start phase (R116, Table 7-1). -/
theorem startNode_light (s : State) :
    ∃ m, s.startNode.light = { s.light.atStarting with phase := s.cfg.node.startPhase, takeMarker := m } := by
  unfold State.startNode
  exact endStartingIfDone_light (l := { s.light.atStarting with phase := s.cfg.node.startPhase }) (by simp)

/-- The lighting after a RESTART: cleared, with every fade HELD (R130, Table 7-1). -/
theorem restartNode_light (s : State) :
    ∃ m, s.restartNode.light =
      { s.light.atStarting with fades := mapAt s.light.fades fun _ f => f.atRestart, takeMarker := m } := by
  unfold State.restartNode
  exact endStartingIfDone_light (l := { s.light.atStarting with fades := mapAt s.light.fades fun _ f => f.atRestart })
    (by simp [LightLive.atStarting])

/-- A START and a RESTART open both caps (R127). -/
theorem startNode_caps (s : State) : s.startNode.light.caps = (1000, 1000) ∧ s.startNode.ice.cap = s.ice.cap := by
  obtain ⟨m, h⟩ := startNode_light s
  rw [h]
  exact ⟨rfl, by simp [State.startNode, IceLive.atStarting]⟩

theorem restartNode_caps (s : State) : s.restartNode.light.caps = (1000, 1000) ∧ s.restartNode.ice.cap = s.ice.cap := by
  obtain ⟨m, h⟩ := restartNode_light s
  rw [h]
  exact ⟨rfl, by simp [State.restartNode, IceLive.atStarting]⟩

/-- Every case of `Event` keeps the caps legal on a legal peer table. -/
theorem Event.capsLegal {c : Instr} {s t : State} (hp : PeersLegal s) (hs : CapsLegal s) (h : Event c s t) : CapsLegal t := by
  obtain ⟨-, hcap, -⟩ := id hs
  have hfloors := hs.floors
  cases h with
  | powerOn | pinAssertion => exact .of_open ⟨Nat.zero_le _, show 300 ≤ 1000 by decide⟩ (Nat.le_refl 1000) rfl
  | write p w d cfg clamped hc hunset hw =>
    obtain ⟨-, -, -, -, hboth⟩ := id hs
    obtain ⟨htarget, hslewed⟩ := hboth hunset
    exact .of_open (writeWindow_floors hfloors hw) hcap (Prod.ext htarget hslewed)
  | start p q hc hunset =>
    obtain ⟨hopen, hown⟩ := startNode_caps (s.setPort p)
    exact .of_open (by simpa using hfloors) (hown.trans_le hcap) hopen
  | restart p q hc hop =>
    obtain ⟨hopen, hown⟩ := restartNode_caps (s.setPort p)
    exact .of_open (by simpa using hfloors) (hown.trans_le hcap) hopen
  | zeroConvert n raw hc hdue => exact hs.congr (by simp) (by simpa using hcap) (zeroConvert_caps s n raw) zeroConvert_unset
  | expirePeriod hc hop => exact hs.congr (by simp) (by simpa using hcap) (by simp) expirePeriod_unset
  | receive f hc hv hop hidle => exact hs.congr (by simp) (by simpa using hcap) (receiveValid_caps s f) receiveValid_unset
  | stuckLine hc hop => exact hs.congr (by simp) (by simpa using hcap) (by simp) (lineStuck_unset hop)
  | stuckLineEnd hc hstuck hidle =>
    exact hs.congr (by simp) (by simpa using hcap) (endStuckLine_caps s) fun hu => absurd hu (endStuckLine_ne_unset s)
  | ice hop => exact hs.congr (by simp) (evaluateIce_cap_le hs) (by simp) fun hu => by simpa using hu
  | capStep hop => exact capStep_capsLegal hp hs hop
  | sample b hop => exact hs.congr (by simp) (by simpa using hcap) (sampleInputs_caps s b) fun hu => by simpa using hu
  | _ =>
    refine hs.congr ?_ ?_ ?_ fun hu => ?_
    · simp [State.touchPort]
    · simpa [State.touchPort] using hcap
    · simp [State.touchPort, LightLive.caps]
    · simpa [State.touchPort] using hu

/-! ### The pending cue list -/

/-- A legal list of pending cues (R120). -/
def ListLegal (l : List PendingCue) : Prop :=
  l.length ≤ 4 ∧ l.Pairwise (fun p q => p.remaining ≤ q.remaining) ∧
    l.Pairwise (fun p q => p.origin ≠ q.origin ∨ p.serial ≠ q.serial) ∧
    ∀ p ∈ l, p.number ≠ 255 ∧ 1 ≤ p.remaining ∧ p.remaining ≤ 3000

theorem pendingLegal_iff (s : State) : PendingLegal s ↔ ListLegal s.light.pendingCues := Iff.rfl

theorem ListLegal.nil : ListLegal [] := ⟨Nat.zero_le _, .nil, .nil, nofun⟩

/-- The list stands. -/
theorem PendingLegal.congr {s t : State} (h : PendingLegal s) (hl : t.light.pendingCues = s.light.pendingCues) : PendingLegal t := by
  rw [pendingLegal_iff] at h ⊢
  rwa [hl]

/-- The list is empty. -/
theorem PendingLegal.of_nil {t : State} (hl : t.light.pendingCues = []) : PendingLegal t := by
  rw [pendingLegal_iff, hl]
  exact .nil

/-- A cue put in its place is one more element of the list (R120). -/
theorem insertPending_perm (x : PendingCue) (l : List PendingCue) : (insertPending x l).Perm (x :: l) := by
  obtain ⟨xs, ys, rfl, hsplit, -, -⟩ := insertPending_split x l
  rw [hsplit]
  exact List.perm_middle

/-- A cue put in its place keeps the order of the remaining waits (R120). -/
theorem insertPending_sorted {x : PendingCue} {l : List PendingCue} (h : l.Pairwise fun p q => p.remaining ≤ q.remaining) :
    (insertPending x l).Pairwise fun p q => p.remaining ≤ q.remaining := by
  induction l with
  | nil => exact List.pairwise_singleton _ _
  | cons p rest ih =>
    obtain ⟨hp, hrest⟩ := List.pairwise_cons.mp h
    unfold insertPending
    split
    · rename_i hle
      refine List.pairwise_cons.mpr ⟨fun q hq => ?_, ih hrest⟩
      rcases List.mem_cons.mp ((insertPending_perm x rest).mem_iff.mp hq) with rfl | hq
      · exact hle
      · exact hp q hq
    · rename_i hgt
      refine List.pairwise_cons.mpr ⟨fun q hq => ?_, h⟩
      rcases List.mem_cons.mp hq with rfl | hq
      · exact (Nat.lt_of_not_le hgt).le
      · exact (Nat.lt_of_not_le hgt).le.trans (hp q hq)

/-- A cue other than STOP with a wait of 1 to 600 steps of five, that the list does not hold, enters a list with room (R120). -/
theorem ListLegal.insert {l : List PendingCue} (h : ListLegal l) (hroom : l.length < 4) {x : PendingCue}
    (hnew : ∀ p ∈ l, p.origin ≠ x.origin ∨ p.serial ≠ x.serial)
    (hx : x.number ≠ 255 ∧ 1 ≤ x.remaining ∧ x.remaining ≤ 3000) : ListLegal (insertPending x l) := by
  obtain ⟨-, hsorted, hdistinct, hentries⟩ := h
  have hperm := insertPending_perm x l
  refine ⟨?_, insertPending_sorted hsorted, ?_, fun p hp => ?_⟩
  · rw [hperm.length_eq, List.length_cons]
    omega
  · refine (List.Perm.pairwise_iff (fun {p q} hpq => ?_) hperm).mpr
      (List.pairwise_cons.mpr ⟨fun p hp => ?_, hdistinct⟩)
    · exact hpq.imp Ne.symm Ne.symm
    · exact (hnew p hp).imp Ne.symm Ne.symm
  · rcases List.mem_cons.mp (hperm.mem_iff.mp hp) with rfl | hp
    · exact hx
    · exact hentries p hp

/-- A cue offered with a wait of at most 600 keeps the list legal (R120). -/
theorem offerPending_legal {s : State} (h : PendingLegal s) {c : Cue} (hnumber : c.number ≠ 255) (hwait : 1 ≤ c.wait ∧ c.wait ≤ 600) :
    PendingLegal (s.offerPending c) := by
  unfold State.offerPending
  split
  · exact h.congr (by simp)
  · rename_i hroom
    split
    · exact h
    · rename_i hnew
      rw [pendingHolds_iff] at hnew
      refine ListLegal.insert h (Nat.lt_of_not_le hroom) (fun p hp => ?_) ⟨hnumber, ?_⟩
      · by_contra hsame
        rw [not_or, not_not, not_not] at hsame
        exact hnew ⟨p, hp, hsame⟩
      · dsimp only
        omega

/-- A cue acting keeps the list legal (R119). -/
theorem actCue_legal {s : State} (h : PendingLegal s) {c : Cue} (hwait : c.wait ≤ 600) : PendingLegal (s.actCue c) := by
  unfold State.actCue
  split
  · exact .of_nil rfl
  · rename_i hnumber
    split
    · exact h.congr (by simp)
    · rename_i hpos
      exact offerPending_legal h hnumber ⟨Nat.pos_of_ne_zero hpos, hwait⟩

/-- An originated cue keeps the list legal, its input's wait being in range (R115, R123). -/
theorem originate_pendingLegal {s : State} (hc : ConfigLegal s.cfg) (h : PendingLegal s) (n : Fin 2) :
    PendingLegal (s.originate n) := by
  obtain ⟨-, -, -, -, -, -, -, -, -, hinputs⟩ := hc
  obtain ⟨-, hwait, -⟩ := hinputs n
  unfold State.originate
  refine PendingLegal.congr (actCue_legal ?_ ?_) (by simp; rfl)
  · exact h
  · exact hwait

/-- The list after a fade step's count is legal (R120). -/
theorem pendingAfter_legal {l : List PendingCue} (h : ListLegal l) : ListLegal (pendingAfter l) := by
  obtain ⟨hlength, hsorted, hdistinct, hentries⟩ := h
  unfold pendingAfter
  refine ⟨?_, List.Pairwise.filter _ ?_, List.Pairwise.filter _ ?_, fun p hp => ?_⟩
  · exact (List.length_filter_le _ _).trans (by simpa using hlength)
  · rw [List.pairwise_map]
    exact hsorted.imp fun {p q} hpq => Nat.sub_le_sub_right hpq 1
  · rw [List.pairwise_map]
    exact hdistinct
  · obtain ⟨hmem, hleft⟩ := List.mem_filter.mp hp
    obtain ⟨q, hq, rfl⟩ := List.mem_map.mp hmem
    obtain ⟨hnumber, -, hmax⟩ := hentries q hq
    simp only [decide_eq_true_eq] at hleft
    exact ⟨hnumber, Nat.pos_of_ne_zero hleft, (Nat.sub_le _ _).trans hmax⟩

/-- The list after a fade step: the takes leave what the count left (R120, R121). -/
theorem fadeStep_pendingCues (s : State) : s.fadeStep.light.pendingCues = pendingAfter s.light.pendingCues := by
  have htakes : ∀ (l : List PendingCue) (u : State),
      (l.foldl (fun (t : State) p => t.takeCue p.toRecord) u).light.pendingCues = u.light.pendingCues :=
    foldl_keeps (fun t => t.light.pendingCues) _ fun t p => by simp
  simp only [State.fadeStep, stepFades_frame, State.servePending, htakes, State.setLight_light]

/-- A delivered frame keeps the list legal (R117 to R122, R129). -/
theorem deliver_pendingLegal {s : State} (h : PendingLegal s) (f : Frame) : PendingLegal (s.deliver f) := by
  unfold State.deliver
  split
  · exact h.congr (by simp)
  · exact h.congr (by simp)
  · unfold State.deliverCue
    split
    · exact h
    · rename_i c hc
      obtain ⟨-, -, -, hwait, -⟩ := readCue_ranges hc
      split
      · unfold State.acceptReplay
        dsimp only
        split
        · split
          · exact .of_nil rfl
          · exact h.congr (by simp)
        · exact h
      · unfold State.acceptCue
        split
        · dsimp only
          split
          · exact h
          · refine actCue_legal ?_ hwait
            exact h
        · exact h
  · exact h.congr (by simp)

/-- A cue originated on a rising edge keeps the list legal (R123, R149). -/
theorem originateOnRise_pendingLegal {u : State} (hc : ConfigLegal u.cfg) (h : PendingLegal u) (before : State) (n : Fin 2) :
    ConfigLegal (u.originateOnRise before n).cfg ∧ PendingLegal (u.originateOnRise before n) := by
  unfold State.originateOnRise
  split
  · exact ⟨by simpa using hc, originate_pendingLegal hc h n⟩
  · exact ⟨hc, h⟩

/-- Every case of `Event` keeps the pending cue list legal on a configuration in range. -/
theorem Event.pendingLegal {c : Instr} {s t : State} (hcfg : ConfigLegal s.cfg) (hs : PendingLegal s) (h : Event c s t) :
    PendingLegal t := by
  cases h with
  | powerOn | pinAssertion => exact .of_nil rfl
  | start p q hc hunset =>
    obtain ⟨m, hlight⟩ := startNode_light (s.setPort p)
    exact .of_nil (by rw [State.setPort_light, hlight]; rfl)
  | restart p q hc hop =>
    obtain ⟨m, hlight⟩ := restartNode_light (s.setPort p)
    exact .of_nil (by rw [State.setPort_light, hlight]; rfl)
  | pulse n p q hop => exact (originate_pendingLegal (s := s.setPort p) hcfg hs n).congr (by simp)
  | zeroConvert n raw hc hdue =>
    obtain ⟨m, hlight⟩ := zeroConvert_light s n raw
    exact hs.congr (by rw [hlight])
  | receive f hc hv hop hidle =>
    have hclosed : PendingLegal (s.scoreDown.setAccess .closed) := hs.congr (by simp)
    unfold State.receiveValid
    dsimp only
    split
    · exact hclosed.congr (by simp)
    · exact deliver_pendingLegal hclosed f
  | stuckLineEnd hc hstuck hidle => exact hs.congr (by rw [endStuckLine_light])
  | fadeStep hop =>
    rw [pendingLegal_iff, fadeStep_pendingCues]
    exact pendingAfter_legal hs
  | sample b hop =>
    have hsampled : PendingLegal (s.setBoard b).sampleRecords := hs
    obtain ⟨hcfg', hfirst⟩ := originateOnRise_pendingLegal (u := (s.setBoard b).sampleRecords) hcfg hsampled (s.setBoard b) 0
    obtain ⟨-, hsecond⟩ := originateOnRise_pendingLegal hcfg' hfirst (s.setBoard b) 1
    exact hsecond
  | _ => exact hs.congr (by simp [State.touchPort])

/-- Settles O10: the caps by `Event.capsLegal` beside the peer table they count, the pending list by `Event.pendingLegal` beside the
configuration its waits come from. -/
theorem stepKeepsCapsLegal : Obligations.StepKeepsCapsLegal := by
  constructor
  · intro s t hp hs h
    have hboth := step_keeps (P := fun s => PeersLegal s ∧ CapsLegal s) (fun _ _ hs => hs)
      (fun s hs => ⟨hs.1.of_peers rfl rfl fun hop => hop, hs.2⟩)
      (fun _ _ _ hs h => ⟨h.peersLegal hs.1, h.capsLegal hs.1 hs.2⟩) ⟨hp, hs⟩ h
    exact hboth.2
  · intro s t hc hs h
    have hboth := step_keeps (P := fun s => ConfigLegal s.cfg ∧ PendingLegal s) (fun _ _ hs => hs) (fun _ hs => hs)
      (fun _ _ _ hs h => ⟨h.configLegal hs.1, h.pendingLegal hs.1 hs.2⟩) ⟨hc, hs⟩ h
    exact hboth.2

end Sys2Proof.Machine

/-!
PROOFS. The channel records stay legal (O12).
-/
namespace Sys2Proof.Machine

/-! ### Rings -/

/-- A ring after a sample holds one more, up to its size (R9, R63). -/
theorem pushRing_length {α : Type} (n : Nat) (ring : List α) (x : α) : (pushRing n ring x).length = min n (ring.length + 1) := by
  simp only [pushRing, List.length_drop, List.length_append, List.length_singleton]
  omega

/-! ### One conversion -/

/-- A sample entering the ring keeps the record legal (R9 to R12). -/
theorem enterSample_legal {c : ChannelLive} (h : ChannelLegal c) (hzero : c.zeroState ≠ .outOfRange) (cfg : ChannelConfig)
    (sample : Nat) : ChannelLegal (c.enterSample cfg sample) := by
  obtain ⟨hraw, -, hout, hin, hhold, hcounts, -, -⟩ := h
  refine ⟨hraw, ?_, hout, hin, ?_, hcounts, fun hgood => ?_, fun hz => absurd hz hzero⟩
  · exact (pushRing_length 4 c.ring sample).trans_le (Nat.min_le_left _ _)
  · simp only [ChannelLive.enterSample]
    split <;> omega
  · simp only [ChannelLive.enterSample] at hgood ⊢
    generalize c.steps cfg (valueOf cfg (filteredCounts (pushRing 4 c.ring sample))) = stepped at hgood ⊢
    cases stepped with
    | true => simp at hgood
    | false =>
      simp only [Bool.false_eq_true, if_false, ite_eq_left_iff, reduceCtorEq, imp_false, not_not] at hgood ⊢
      obtain ⟨hlength, hnone⟩ := hgood
      exact ⟨hlength, by rw [hnone]⟩

/-- A recovery keeps the record legal (R14). -/
theorem recover_legal {c : ChannelLive} (h : ChannelLegal c) (hzero : c.zeroState ≠ .outOfRange) (cfg : ChannelConfig)
    (sample : Nat) : ChannelLegal (c.recover cfg sample) := by
  obtain ⟨hraw, -, hout, -, -, hcounts, -, -⟩ := h
  exact ⟨hraw, show 1 ≤ 4 by decide, hout, Nat.zero_le _, Nat.zero_le _, hcounts, nofun, fun hz => absurd hz hzero⟩

/-- An in-range conversion of a FAILED channel keeps its record legal (R14). -/
theorem inRangeFailed_legal {c : ChannelLive} (h : ChannelLegal c) (hzero : c.zeroState ≠ .outOfRange) (cfg : ChannelConfig)
    (sample : Nat) : ChannelLegal (c.inRangeFailed cfg sample) := by
  unfold ChannelLive.inRangeFailed
  split
  · exact recover_legal h hzero cfg sample
  · rename_i hlow
    obtain ⟨hraw, hring, hout, -, hhold, hcounts, hgood, -⟩ := h
    exact ⟨hraw, hring, hout, by dsimp only; omega, hhold, hcounts, hgood, fun hz => absurd hz hzero⟩

/-- An out-of-range conversion keeps the record legal (R13). -/
theorem outOfRange_legal {c : ChannelLive} (h : ChannelLegal c) (hzero : c.zeroState ≠ .outOfRange) :
    ChannelLegal c.outOfRange := by
  obtain ⟨hraw, hring, -, -, hhold, hcounts, hgood, -⟩ := h
  unfold ChannelLive.outOfRange
  dsimp only
  split
  · exact ⟨hraw, hring, Nat.min_le_left _ _, Nat.zero_le _, Nat.zero_le _, hcounts, nofun, fun hz => absurd hz hzero⟩
  · exact ⟨hraw, hring, Nat.min_le_left _ _, Nat.zero_le _, hhold, hcounts, hgood, fun hz => absurd hz hzero⟩

/-- A conversion keeps the record legal (R7 to R14). -/
theorem convert_legal {c : ChannelLive} (h : ChannelLegal c) (cfg : ChannelConfig) (raw : Counts) :
    ChannelLegal (c.convert cfg raw) := by
  obtain ⟨-, hring, hout, hin, hhold, hcounts, hgood, hzero⟩ := h
  have hcounted : raw.toNat ≤ 4095 := Nat.le_of_lt_succ raw.isLt
  unfold ChannelLive.convert
  dsimp only
  split
  · exact ⟨hcounted, hring, hout, hin, hhold, hcounts, hgood, hzero⟩
  · rename_i hnot
    split
    · have hreset : ChannelLegal { c with lastRaw := raw.toNat, outRun := 0 } :=
        ⟨hcounted, hring, Nat.zero_le _, hin, hhold, hcounts, hgood, fun hz => absurd hz hnot⟩
      split
      · exact inRangeFailed_legal hreset hnot _ _
      · exact enterSample_legal hreset hnot _ _
    · refine outOfRange_legal ?_ hnot
      exact ⟨hcounted, hring, hout, hin, hhold, hcounts, hgood, hzero⟩

/-- A channel with an empty ring and runs of 0, as one still to be measured has (R15). -/
def Cleared (c : ChannelLive) : Prop := c.ring = [] ∧ c.outRun = 0 ∧ c.inRun = 0

/-- A reference conversion leaves the ring and the runs (R5). -/
theorem takeReference_cleared {c : ChannelLive} (h : Cleared c) (raw : Counts) : Cleared (c.takeReference raw) := by
  unfold ChannelLive.takeReference
  dsimp only
  (repeat' split) <;> exact h

/-- A reference conversion of a channel still to be measured keeps its record legal (R5, R6). -/
theorem takeReference_legal {c : ChannelLive} (h : ChannelLegal c) (hclear : Cleared c) (raw : Counts) :
    ChannelLegal (c.takeReference raw) := by
  obtain ⟨hraw, hring, hout, hin, hhold, hcounts, hgood, hzero⟩ := h
  unfold ChannelLive.takeReference
  dsimp only
  split
  · rename_i hfew
    exact ⟨hraw, hring, hout, hin, hhold, Nat.le_of_lt_succ hfew, hgood, hzero⟩
  · split
    · exact ⟨hraw, hring, hout, hin, hhold, Nat.zero_le _, hgood, nofun⟩
    · exact ⟨hraw, hring, hout, hin, hhold, Nat.zero_le _, nofun, fun _ => ⟨rfl, hclear⟩⟩

/-- A channel's record at an entry into STARTING (R15). -/
theorem atStarting_legal {c : ChannelLive} (h : ChannelLegal c) (cfg : ChannelConfig) : ChannelLegal (c.atStarting cfg) := by
  unfold ChannelLive.atStarting
  split
  · exact h
  · obtain ⟨hraw, -⟩ := h
    refine ⟨hraw, Nat.zero_le _, Nat.zero_le _, Nat.zero_le _, Nat.zero_le _, Nat.zero_le _, nofun, fun hz => ?_⟩
    dsimp only at hz
    split at hz <;> cases hz

/-- A used channel starts with an empty ring and runs of 0 (R15). -/
theorem atStarting_cleared {cfg : ChannelConfig} (hused : cfg.kind ≠ .unused) (c : ChannelLive) : Cleared (c.atStarting cfg) := by
  unfold ChannelLive.atStarting
  rw [if_neg hused]
  exact ⟨rfl, rfl, rfl⟩

/-! ### The invariant -/

theorem measLegal_iff (s : State) : MeasLegal s ↔ (∀ n : Fin 12, ChannelLegal s.meas.channels[n.val]) ∧
    (s.node.state = .starting → ∀ n ∈ s.meas.zeroSchedule, Cleared s.meas.channels[n.val]) := Iff.rfl

/-- The channels and the schedule of the zero measurement stand, and STARTING is not entered. -/
theorem MeasLegal.congr {s t : State} (h : MeasLegal s) (hchannels : t.meas.channels = s.meas.channels)
    (hschedule : t.meas.zeroSchedule = s.meas.zeroSchedule) (hstate : t.node.state = .starting → s.node.state = .starting) :
    MeasLegal t := by
  obtain ⟨hlegal, hclear⟩ := (measLegal_iff s).mp h
  rw [measLegal_iff, hchannels, hschedule]
  exact ⟨hlegal, fun hs => hclear (hstate hs)⟩

/-- In LISTEN, RUN and MUTE no zero measurement is under way. -/
theorem ne_starting_of_operating {s : State} (h : s.operating = true) : s.node.state ≠ .starting := by
  intro hs
  rw [State.operating, hs] at h
  cases h

/-- The channels a start measures are used ones (R5). -/
theorem used_of_mem_measuring {cfg : Configuration} {n : Fin 12}
    (h : n ∈ (List.replicate 8 (measuringChannels cfg)).flatten) : (cfg.channels[n.val]).kind ≠ .unused := by
  obtain ⟨l, hl, hn⟩ := List.mem_flatten.mp h
  rw [List.eq_of_mem_replicate hl] at hn
  obtain ⟨hused, -⟩ := List.mem_filter.mp hn
  obtain ⟨-, hkind⟩ := List.mem_filter.mp hused
  exact of_decide_eq_true hkind

/-- An entry into STARTING keeps the records legal (R15). -/
theorem enterStarting_measLegal {s : State} (h : MeasLegal s) : MeasLegal s.enterStarting := by
  obtain ⟨hlegal, -⟩ := (measLegal_iff s).mp h
  have hmeas : s.enterStarting.meas =
      { channels := mapAt s.meas.channels fun n c => c.atStarting s.cfg.channels[n]
        zeroSchedule := (List.replicate 8 (measuringChannels s.cfg)).flatten
        scanSchedule := [] } := rfl
  rw [measLegal_iff, hmeas]
  refine ⟨fun n => ?_, fun _ n hn => ?_⟩
  · rw [mapAt_getElem]
    exact atStarting_legal (hlegal n) _
  · rw [mapAt_getElem]
    exact atStarting_cleared (used_of_mem_measuring hn) _

/-- The end of STARTING touches no channel (R156). -/
theorem endStartingIfDone_measLegal {s : State} (h : MeasLegal s) : MeasLegal s.endStartingIfDone := by
  unfold State.endStartingIfDone
  split
  · exact h.congr (by simp [State.endStarting]) (by simp [State.endStarting]) fun hs => by simp at hs
  · exact h

theorem startNode_measLegal {s : State} (h : MeasLegal s) : MeasLegal s.startNode := by
  have hentered : MeasLegal (s.setStartFault .noFault 0).enterStarting := enterStarting_measLegal h
  unfold State.startNode
  exact endStartingIfDone_measLegal hentered

theorem restartNode_measLegal {s : State} (h : MeasLegal s) : MeasLegal s.restartNode := by
  unfold State.restartNode
  refine endStartingIfDone_measLegal ((enterStarting_measLegal h).congr ?_ ?_ fun _ => ?_)
  all_goals simp

/-- A reference conversion keeps the records legal (R5, R6). -/
theorem zeroConvert_measLegal {s : State} (h : MeasLegal s) {n : Fin 12} (hdue : zeroConversionDue n s = true) (raw : Counts) :
    MeasLegal (s.zeroConvert n raw) := by
  obtain ⟨hlegal, hclear⟩ := (measLegal_iff s).mp h
  obtain ⟨hstarting, hhead⟩ := Bool.and_eq_true_iff.mp hdue
  have hcleared := hclear (of_decide_eq_true hstarting)
  have hn : n ∈ s.meas.zeroSchedule := List.mem_of_head? (of_decide_eq_true hhead)
  unfold State.zeroConvert
  refine endStartingIfDone_measLegal ((measLegal_iff _).mpr ⟨fun m => ?_, fun _ m hm => ?_⟩)
  · simp only [raiseIf_frame, State.setMeas_meas]
    exact setAt_forall hlegal (takeReference_legal (hlegal n) (hcleared n hn) raw) m
  · simp only [raiseIf_frame, State.setMeas_meas] at hm ⊢
    rw [setAt_getElem]
    split
    · exact takeReference_cleared (hcleared n hn) raw
    · exact hcleared m (List.mem_of_mem_tail hm)

/-- A conversion keeps the records legal (R7). -/
theorem convertChannel_measLegal {s : State} (h : MeasLegal s) {n : Fin 12} (hdue : conversionDue n s = true) (raw : Counts) :
    MeasLegal (s.convertChannel n raw) := by
  obtain ⟨hlegal, -⟩ := (measLegal_iff s).mp h
  obtain ⟨hop, -⟩ := Bool.and_eq_true_iff.mp hdue
  refine (measLegal_iff _).mpr ⟨fun m => ?_, fun hs => ?_⟩
  · simp only [State.convertChannel, raiseIf_frame, State.setMeas_meas]
    exact setAt_forall hlegal (convert_legal (hlegal n) _ raw) m
  · exact absurd (by simpa using hs) (ne_starting_of_operating hop)

/-- The power-on records are legal (Table 1-9). -/
theorem measLegal_powerOn : MeasLegal .reset := by
  refine (measLegal_iff _).mpr ⟨fun n => ?_, nofun⟩
  have hpower : State.reset.meas.channels[n.val] = .powerOn := by simp [State.reset, Measurement.powerOn]
  rw [hpower]
  exact ⟨by decide, by decide, by decide, by decide, by decide, by decide, nofun, nofun⟩

/-- Every case of `Event` keeps the channel records legal. -/
theorem Event.measLegal {c : Instr} {s t : State} (hs : MeasLegal s) (h : Event c s t) : MeasLegal t := by
  cases h with
  | powerOn | pinAssertion =>
    exact measLegal_powerOn.congr rfl rfl nofun
  | start p q hc hunset => exact startNode_measLegal (s := s.setPort p) hs
  | restart p q hc hop => exact restartNode_measLegal (s := s.setPort p) hs
  | zeroConvert n raw hc hdue => exact zeroConvert_measLegal hs hdue raw
  | convert n raw hdue => exact convertChannel_measLegal hs hdue raw
  | expirePeriod hc hop =>
    refine hs.congr (by simp) (by simp) fun hstarting => ?_
    rcases expirePeriod_state s with e | ⟨-, e⟩
    · exact e ▸ hstarting
    · rw [e] at hstarting
      cases hstarting
  | receive f hc hv hop hidle =>
    refine hs.congr (by simp) (by simp) fun hstarting => ?_
    rcases receiveValid_state s f with e | e
    · exact e ▸ hstarting
    · rw [e] at hstarting
      cases hstarting
  | stuckLine hc hop =>
    refine hs.congr (by simp) (by simp) fun hstarting => ?_
    rcases lineStuck_state s hop with e | ⟨-, e⟩
    · exact e ▸ hstarting
    · rw [e] at hstarting
      cases hstarting
  | stuckLineEnd hc hstuck hidle => exact hs.congr (by simp) (by simp) fun hstarting => by simp at hstarting
  | _ =>
    refine hs.congr ?_ ?_ fun hstarting => ?_
    · simp [State.touchPort]
    · simp [State.touchPort]
    · simpa [State.touchPort] using hstarting

/-- Settles O12: idle steps touch the generators alone, and every case of `Event` keeps the records legal. -/
theorem stepKeepsMeasLegal : Obligations.StepKeepsMeasLegal :=
  fun _ _ hs h => step_keeps (P := MeasLegal) (fun _ _ hs => hs) (fun _ hs => hs) (fun _ _ _ => Event.measLegal) hs h

end Sys2Proof.Machine

/-!
PROOFS. The generators stay legal, and every slot a level of 0 to 1000 (O11).
-/
namespace Sys2Proof.Machine

/-! ### One generator -/

/-- A level placed in the inactive slot leaves the active level (R134). -/
theorem place_activeLevel (g : Generator) (level : Nat) : (g.place level).activeLevel = g.activeLevel := by
  obtain ⟨running, a, b, active, written, count, part, output⟩ := g
  cases active <;> rfl

/-- What placing a level leaves of a generator (R134). -/
theorem place_keeps (g : Generator) (level : Nat) : (g.place level).running = g.running ∧ (g.place level).count = g.count ∧
    (g.place level).part = g.part ∧ (g.place level).output = g.output := by
  unfold Generator.place
  split <;> exact ⟨rfl, rfl, rfl, rfl⟩

/-- A period start of a RUNNING generator is legal: its output is high only before the active level (R135). -/
theorem periodStart_legal {g : Generator} (h : g.running = true) : GeneratorLegal g.periodStart := by
  have hrunning : g.periodStart.running = true := h
  refine ⟨fun hoff => ?_, Nat.zero_le _, Nat.zero_le _, fun hout => ⟨h, of_decide_eq_true hout⟩⟩
  rw [hrunning] at hoff
  cases hoff

/-- A write keeps a generator legal (R133, R134). -/
theorem write_legal {g : Generator} (h : GeneratorLegal g) (level : Nat) : GeneratorLegal (g.write level) := by
  unfold Generator.write
  split
  · rename_i hrunning
    obtain ⟨-, hcount, hpart, hout⟩ := h
    obtain ⟨hrun, hc, hp, ho⟩ := place_keeps g level
    rw [GeneratorLegal, hrun, hc, hp, ho, place_activeLevel]
    exact ⟨fun hoff => absurd hrunning (by rw [hoff]; exact Bool.false_ne_true), hcount, hpart, hout⟩
  · exact periodStart_legal rfl

/-- Whether the level is still ahead, apart (R136). -/
theorem levelAhead_iff (g : Generator) : g.levelAhead = true ↔
    g.running = true ∧ 0 < g.activeLevel ∧ g.activeLevel < 1000 ∧ g.count < g.activeLevel := by
  simp [Generator.levelAhead, and_assoc]

/-- The count that reaches the level leaves a generator legal (R136). -/
theorem reachLevel_legal {g : Generator} (h : g.levelAhead = true) : GeneratorLegal g.reachLevel := by
  obtain ⟨hrunning, -, hlevel, -⟩ := (levelAhead_iff g).mp h
  refine ⟨fun hoff => ?_, Nat.le_of_lt_succ hlevel, Nat.zero_le _, nofun⟩
  rw [show g.reachLevel.running = g.running from rfl, hrunning] at hoff
  cases hoff

/-- An idle step keeps a generator legal: the count stops before the event a row brings (log entry 7). -/
theorem elapse_legal {g : Generator} (h : GeneratorLegal g) {countTime : Nat} (ht : countTime ≤ 1000) :
    GeneratorLegal (g.elapse countTime) := by
  obtain ⟨hoff, hcount, hpart, hout⟩ := id h
  unfold Generator.elapse
  split
  · exact h
  · rename_i hrunning
    split
    · exact ⟨fun hoff' => absurd hoff' (by simpa using hrunning), hcount, by dsimp only; omega, hout⟩
    · split
      · exact h
      · rename_i hevent
        simp only [Generator.atEvent, Bool.or_eq_true, Bool.and_eq_true, decide_eq_true_eq, not_or, levelAhead_iff] at hevent
        obtain ⟨hbefore, hperiod⟩ := hevent
        refine ⟨fun hoff' => absurd hoff' (by simpa using hrunning), by dsimp only; omega, Nat.zero_le _, fun hhigh => ?_⟩
        obtain ⟨hrun, hlow⟩ := hout hhigh
        refine ⟨hrun, ?_⟩
        show g.count + 1 < g.activeLevel
        by_contra hge
        exact hbefore ⟨⟨hrun, by omega, by omega, hlow⟩, by omega⟩

/-- An INACTIVE strobe stands in ON_TIME with its counter at 0 (R139). -/
def StrobeLegal (x : Strobe) : Prop := x.active = false → x.phase = .onTime ∧ x.counter = 0

/-- An expiry of an ACTIVE strobe's timer leaves it ACTIVE (R138). -/
theorem expire_legal {x : Strobe} (h : x.active = true) : StrobeLegal x.expire := by
  have hactive : x.expire.active = x.active := by
    unfold Strobe.expire
    (repeat' split) <;> rfl
  intro hoff
  rw [hactive, h] at hoff
  cases hoff

/-! ### All generators at once -/

/-- A property V of generator records and S of strobe records that every operation keeps, as long as the levels written satisfy L. -/
structure Kept (V : Generator → Prop) (S : Strobe → Prop) (L : Nat → Prop) : Prop where
  powerOn : V .powerOn ∧ S .powerOn
  zero : L 0
  write : ∀ g level, V g → L level → V (g.write level)
  periodStart : ∀ g, V g → g.periodCanEnd = true → V g.periodStart
  reachLevel : ∀ g, V g → g.levelAhead = true → V g.reachLevel
  elapse : ∀ g countTime, countTime ≤ 1000 → V g → V (g.elapse countTime)
  begin : ∀ on off, S (.begin on off)
  finish : ∀ x, S x → S x.finish
  expire : ∀ x, S x → x.active = true → S x.expire

/-- Every generator record satisfies V and every strobe record S. -/
def AllGens (V : Generator → Prop) (S : Strobe → Prop) (s : State) : Prop :=
  (∀ n : Fin 4, V s.gens.valves[n.val]) ∧ ∀ n : Fin 8, V (s.gens.dimmers[n.val]).gen ∧ S (s.gens.dimmers[n.val]).strobe

section
variable {V : Generator → Prop} {S : Strobe → Prop} {L : Nat → Prop}

/-- The generators stand. -/
theorem AllGens.congr {s t : State} (h : AllGens V S s) (hg : t.gens = s.gens) : AllGens V S t := by
  unfold AllGens
  rwa [hg]

/-- A write to a valve generator (R134). -/
theorem AllGens.writeValve (k : Kept V S L) {s : State} (h : AllGens V S s) (n : Fin 4) {level : Nat} (hl : L level) :
    AllGens V S (s.writeValve n level) := by
  obtain ⟨hvalves, hdimmers⟩ := h
  exact ⟨setAt_forall hvalves (k.write _ _ (hvalves n) hl), hdimmers⟩

/-- The zero duties of an entry into MUTE (R105). -/
theorem AllGens.writeZeroDuties (k : Kept V S L) {s : State} (h : AllGens V S s) : AllGens V S s.writeZeroDuties := by
  refine foldl_preserves (AllGens V S) _ (fun t n ht => ?_) _ s h
  split
  · refine AllGens.writeValve k ?_ _ k.zero
    exact ht
  · exact ht

/-- The zeros of a RESTART (R141). -/
theorem AllGens.writeZeroValves (k : Kept V S L) {s : State} (h : AllGens V S s) : AllGens V S s.writeZeroValves :=
  foldl_preserves (AllGens V S) _ (fun _ n ht => ht.writeValve k n k.zero) _ s h

/-- The duties of a share evaluation, formed from the grants (R106). -/
theorem AllGens.writeDuties (k : Kept V S L) {s : State} (h : AllGens V S s)
    (hduty : ∀ n : Fin 4, L (dutyOf (s.cfg.loops[n.val]).design (s.heat.loops[n.val]).grant)) : AllGens V S s.writeDuties := by
  have hfold := foldl_preserves (fun t => AllGens V S t ∧ t.cfg = s.cfg ∧
    ∀ n : Fin 4, (t.heat.loops[n.val]).grant = (s.heat.loops[n.val]).grant) State.writeDuty ?_ (List.finRange 4) s
    ⟨h, rfl, fun _ => rfl⟩
  · exact hfold.1
  · rintro t n ⟨ht, hcfg, hgrants⟩
    unfold State.writeDuty
    split
    · refine ⟨AllGens.writeValve k ?_ _ ?_, by simpa using hcfg, fun m => ?_⟩
      · exact ht
      · rw [hcfg]
        exact (hgrants n).symm ▸ hduty n
      · simp only [writeValve_frame, State.setHeat_heat, setAt_getElem]
        split
        · rename_i e
          rw [← Fin.ext e]
          exact hgrants n
        · exact hgrants m
    · exact ⟨ht, hcfg, hgrants⟩

/-- The generators after an entry into MUTE: those after the zero duties (R105). -/
theorem enterMute_gens (s : State) (m : MuteKind) : ∃ u : State, (s.enterMute m).gens = u.writeZeroDuties.gens ∧ u.gens = s.gens := by
  simp only [State.enterMute, State.setNodeState, State.setNode_gens]
  exact ⟨_, rfl, rfl⟩

/-- An entry into MUTE writes zero duties (R105). -/
theorem AllGens.enterMute (k : Kept V S L) {s : State} (h : AllGens V S s) (m : MuteKind) : AllGens V S (s.enterMute m) := by
  obtain ⟨u, hmuted, hbefore⟩ := enterMute_gens s m
  exact ((h.congr hbefore).writeZeroDuties k).congr hmuted

theorem AllGens.clash (k : Kept V S L) {s : State} (h : AllGens V S s) : AllGens V S s.clash := by
  unfold State.clash
  split
  · exact h
  · exact AllGens.enterMute k (h.congr (by simp)) _

theorem AllGens.lineStuck (k : Kept V S L) {s : State} (h : AllGens V S s) : AllGens V S s.lineStuck := by
  unfold State.lineStuck
  dsimp only
  split
  · exact h
  · exact (AllGens.enterMute k (h.congr (t := s.raise .lineStuck) (by simp)) .stuck).congr (by simp)

/-- A take hands strobes to the channels of its scene that are not KEEP (R121, R137, R139). -/
theorem AllGens.takeScene (k : Kept V S L) {s : State} (h : AllGens V S s) (sc : Scene) (fade : Nat) :
    AllGens V S (s.takeScene sc fade) := by
  obtain ⟨hvalves, hdimmers⟩ := h
  refine ⟨hvalves, fun n => ?_⟩
  simp only [State.takeScene, State.setGens_gens, mapAt_getElem]
  obtain ⟨hgen, hstrobe⟩ := hdimmers n
  split
  · refine ⟨hgen, ?_⟩
    unfold Dimmer.takeStrobe
    dsimp only
    split
    · exact k.begin _ _
    · exact k.finish _ hstrobe
  · exact ⟨hgen, hstrobe⟩

theorem AllGens.takeCue (k : Kept V S L) {s : State} (h : AllGens V S s) (c : CueRecord) : AllGens V S (s.takeCue c) := by
  unfold State.takeCue
  dsimp only
  split
  · rename_i sc hsc
    refine AllGens.congr (AllGens.takeScene k (s := s.takePhase c) ?_ sc c.fade) rfl
    exact h
  · exact h

theorem AllGens.actCue (k : Kept V S L) {s : State} (h : AllGens V S s) (c : Cue) : AllGens V S (s.actCue c) := by
  unfold State.actCue
  split
  · exact h
  · split
    · exact h.takeCue k _
    · exact h.congr (by simp)

theorem AllGens.originate (k : Kept V S L) {s : State} (h : AllGens V S s) (n : Fin 2) : AllGens V S (s.originate n) := by
  unfold State.originate
  refine AllGens.congr (AllGens.actCue k (s := s.setLine { s.line with cueSerial := (s.line.cueSerial + 1) % 256 }) ?_ _) (by simp; rfl)
  exact h

theorem AllGens.originateOnRise (k : Kept V S L) {s : State} (h : AllGens V S s) (before : State) (n : Fin 2) :
    AllGens V S (s.originateOnRise before n) := by
  unfold State.originateOnRise
  split
  · exact h.originate k n
  · exact h

/-- A delivered CUE or replay may be taken (R119, R129). -/
theorem AllGens.deliver (k : Kept V S L) {s : State} (h : AllGens V S s) (f : Frame) : AllGens V S (s.deliver f) := by
  unfold State.deliver
  split
  · exact h.congr (by simp)
  · exact h.congr (by simp)
  · unfold State.deliverCue
    split
    · exact h
    · rename_i c hc
      split
      · unfold State.acceptReplay
        dsimp only
        split
        · split
          · exact h
          · refine AllGens.takeCue k ?_ _
            exact h
        · exact h
      · unfold State.acceptCue
        split
        · dsimp only
          split
          · exact h
          · refine AllGens.actCue k ?_ _
            exact h
        · exact h
  · exact h.congr (by simp)

/-- A fade step takes the pending cues that expire, and writes each channel's output level (R120, R124). -/
theorem AllGens.fadeStep (k : Kept V S L) {s : State} (h : AllGens V S s) (hcap : ∀ x, L (min x s.light.slewedCap)) :
    AllGens V S s.fadeStep := by
  have hserved : AllGens V S s.servePending := by
    unfold State.servePending
    refine foldl_preserves (AllGens V S) _ (fun t p ht => ht.takeCue k _) _ _ ?_
    exact h
  obtain ⟨hvalves, hdimmers⟩ := hserved
  unfold State.fadeStep State.stepFades
  refine ⟨hvalves, fun n => ?_⟩
  obtain ⟨hgen, hstrobe⟩ := hdimmers n
  simp only [State.setGens_gens, mapAt_getElem, Fin.getElem_fin]
  refine ⟨k.write _ _ hgen ?_, hstrobe⟩
  simpa [Fade.stepped] using hcap _

/-- Another record for a generator. -/
theorem AllGens.setGenerator {s : State} (h : AllGens V S s) (g : GeneratorId) {x : Generator} (hx : V x) :
    AllGens V S (s.setGenerator g x) := by
  obtain ⟨hvalves, hdimmers⟩ := h
  cases g with
  | dimmer n =>
    exact ⟨hvalves, setAt_forall (P := fun d : Dimmer => V d.gen ∧ S d.strobe) hdimmers ⟨hx, (hdimmers n).2⟩⟩
  | valve n => exact ⟨setAt_forall hvalves hx, hdimmers⟩

/-- The record of a generator satisfies what all do. -/
theorem AllGens.at {s : State} (h : AllGens V S s) (g : GeneratorId) : V (generatorAt s g) := by
  obtain ⟨hvalves, hdimmers⟩ := h
  cases g with
  | dimmer n => exact (hdimmers n).1
  | valve n => exact hvalves n

/-- The power-on records (Table 8-4). -/
theorem Kept.all_powerOn (k : Kept V S L) : AllGens V S .reset := by
  refine ⟨fun n => ?_, fun n => ?_⟩
  · simpa [State.reset, Generators.powerOn] using k.powerOn.1
  · simpa [State.reset, Generators.powerOn, Dimmer.powerOn] using k.powerOn

/-- A RESTART writes every valve generator 0 (R141). -/
theorem AllGens.restartNode (k : Kept V S L) {s : State} (h : AllGens V S s) : AllGens V S s.restartNode := by
  have hentered : AllGens V S s.enterStarting := h.congr (by simp)
  unfold State.restartNode
  refine AllGens.congr (AllGens.writeZeroValves k ?_) (by simp; rfl)
  exact hentered

/-- A period expiry writes the duties of the grants it computes (R93, R106). -/
theorem AllGens.expirePeriod (k : Kept V S L) {s : State} (h : AllGens V S s)
    (hduty : ∀ n : Fin 4, L (dutyOf (s.cfg.loops[n.val]).design (ownGrant s.computeOffer.computeDemands n))) :
    AllGens V S s.expirePeriod := by
  have hgens : s.expirePeriod.gens = s.evaluateShare.gens := by simp [State.expirePeriod]
  have hgranted : AllGens V S s.computeOffer.computeDemands.computeGrants := h.congr (by simp)
  refine (hgranted.writeDuties k fun n => ?_).congr hgens
  simpa [State.computeGrants] using hduty n

/-- Every case of `Event` keeps what `Kept` says of the generators, where the capped levels and the duties satisfy L. -/
theorem Event.allGens (k : Kept V S L) {c : Instr} {s t : State} (hs : AllGens V S s) (hcap : ∀ x, L (min x s.light.slewedCap))
    (hduty : s.operating = true → ∀ n : Fin 4, L (dutyOf (s.cfg.loops[n.val]).design (ownGrant s.computeOffer.computeDemands n)))
    (h : Event c s t) : AllGens V S t := by
  cases h with
  | powerOn | pinAssertion => exact k.all_powerOn.congr rfl
  | restart p q hc hop => exact (AllGens.restartNode k (s := s.setPort p) hs).congr rfl
  | pulse n p q hop =>
    have hport : AllGens V S (s.setPort p) := hs
    exact (hport.originate k n).congr rfl
  | expirePeriod hc hop => exact hs.expirePeriod k (hduty hop)
  | receive f hc hv hop hidle =>
    have hclosed : AllGens V S (s.scoreDown.setAccess .closed) := hs
    unfold State.receiveValid
    dsimp only
    split
    · exact hclosed.clash k
    · exact hclosed.deliver k f
  | stuckLine hc hop => exact hs.lineStuck k
  | fadeStep hop => exact hs.fadeStep k hcap
  | sample b hop =>
    have hsampled : AllGens V S (s.setBoard b).sampleRecords := hs
    exact (hsampled.originateOnRise k _ 0).originateOnRise k _ 1
  | periodStart g hend => exact hs.setGenerator g (k.periodStart _ (hs.at g) hend)
  | reachLevel g hahead => exact hs.setGenerator g (k.reachLevel _ (hs.at g) hahead)
  | strobe n hactive =>
    obtain ⟨hvalves, hdimmers⟩ := hs
    obtain ⟨hgen, hstrobe⟩ := hdimmers n
    exact ⟨hvalves, setAt_forall (P := fun d : Dimmer => V d.gen ∧ S d.strobe) hdimmers ⟨hgen, k.expire _ hstrobe hactive⟩⟩
  | _ => exact hs.congr (by simp [State.touchPort])

/-- An idle step advances each generator's count or leaves it (log entry 7). -/
theorem AllGens.elapse (k : Kept V S L) {s : State} (h : AllGens V S s) : AllGens V S s.elapse := by
  obtain ⟨hvalves, hdimmers⟩ := h
  refine ⟨fun n => ?_, fun n => ?_⟩
  · simp only [State.elapse, State.setGens_gens, mapAt_getElem]
    exact k.elapse _ _ (by decide) (hvalves n)
  · obtain ⟨hgen, hstrobe⟩ := hdimmers n
    simp only [State.elapse, State.setGens_gens, mapAt_getElem]
    exact ⟨k.elapse _ _ (by decide) hgen, hstrobe⟩

end

/-! ### Legal generators -/

/-- Legal records are kept, whatever the levels written (R132 to R139). -/
theorem kept_legal : Kept GeneratorLegal StrobeLegal fun _ => True where
  powerOn := ⟨⟨fun _ => rfl, Nat.zero_le _, Nat.zero_le _, nofun⟩, fun _ => ⟨rfl, rfl⟩⟩
  zero := trivial
  write _ level h _ := write_legal h level
  periodStart _ _ hend := periodStart_legal (Bool.and_eq_true_iff.mp hend).1
  reachLevel _ _ hahead := reachLevel_legal hahead
  elapse _ _ ht h := elapse_legal h ht
  begin _ _ := nofun
  finish _ _ := fun _ => ⟨rfl, rfl⟩
  expire _ _ hactive := expire_legal hactive

theorem gensLegal_iff (s : State) : GensLegal s ↔ AllGens GeneratorLegal StrobeLegal s := Iff.rfl

/-! ### Levels -/

/-- Both slots hold a level of 0 to 1000 (Table 8-1). -/
def SlotLevels (g : Generator) : Prop := g.slotA ≤ 1000 ∧ g.slotB ≤ 1000

/-- A level of 0 to 1000 placed keeps the slots at levels (R134). -/
theorem place_slotLevels {g : Generator} (h : SlotLevels g) {level : Nat} (hl : level ≤ 1000) : SlotLevels (g.place level) := by
  obtain ⟨ha, hb⟩ := h
  unfold Generator.place
  split
  · exact ⟨ha, hl⟩
  · exact ⟨hl, hb⟩

/-- Slots at levels are kept by every operation that writes levels of 0 to 1000. -/
theorem kept_slotLevels : Kept SlotLevels (fun _ => True) fun level => level ≤ 1000 where
  powerOn := ⟨⟨Nat.zero_le _, Nat.zero_le _⟩, trivial⟩
  zero := Nat.zero_le _
  write g level h hl := by
    unfold Generator.write
    split
    · exact place_slotLevels h hl
    · exact place_slotLevels h hl
  periodStart _ h _ := h
  reachLevel _ h _ := h
  elapse g countTime _ h := by
    obtain ⟨count, part, e⟩ := elapse_count_part g countTime
    rw [e]
    exact h
  begin _ _ := trivial
  finish _ _ := trivial
  expire _ _ _ := trivial

/-- A duty of a grant within the design heat is a level (R106). -/
theorem dutyOf_le {design grant : Nat} (h : grant ≤ design) : dutyOf design grant ≤ 1000 := by
  unfold dutyOf
  split
  · exact Nat.zero_le _
  · refine Nat.div_le_of_le_mul ?_
    exact Nat.mul_le_mul_right 1000 h

/-! ### Demands within the design heat -/

/-- The demand and the held demand of a loop stand within its design heat (R96 to R99). -/
def WithinDesign (cfg : LoopConfig) (l : LoopLive) : Prop := l.demand ≤ cfg.design ∧ l.held ≤ cfg.design

/-- A STAND loop's curtailed demand is within the demand (R98). -/
theorem curtailed_le (cls : HeatClass) {curtail demand : Nat} (h : curtail ≤ 1000) : curtailed cls curtail demand ≤ demand := by
  unfold curtailed
  split
  · exact Nat.div_le_of_le_mul (by rw [Nat.mul_comm]; exact Nat.mul_le_mul_right demand h)
  · exact Nat.le_refl _

/-- The demand of a shortfall within the band is within the design heat (R96). -/
theorem computed_le {cfg : LoopConfig} (phase : Phase) (t : Int) :
    (floorDiv ((cfg.design : Int) * shortfallOf cfg phase t) (cfg.band : Int)).toNat ≤ cfg.design := by
  have hshort : 0 ≤ shortfallOf cfg phase t ∧ shortfallOf cfg phase t ≤ cfg.band := by
    simp only [shortfallOf, clamp]
    omega
  rw [floorDiv, Int.fdiv_eq_ediv_of_nonneg _ (Int.natCast_nonneg _)]
  rcases Nat.eq_zero_or_pos cfg.band with hzero | hpos
  · simp [hzero]
  · have hdiv : (cfg.design : Int) * shortfallOf cfg phase t / cfg.band ≤ cfg.design :=
      Int.ediv_le_of_le_mul (by exact_mod_cast hpos)
        (Int.mul_le_mul_of_nonneg_left hshort.2 (Int.natCast_nonneg _))
    omega

/-- One loop's demand part keeps demand and held demand within the design heat (R96 to R99). -/
theorem demandStep_within {cfg : LoopConfig} {l : LoopLive} (h : WithinDesign cfg l) (phase : Phase) {regen curtail : Nat}
    (hregen : regen ≤ 1000) (hcurtail : curtail ≤ 1000) (period : Nat) (r : Option Reading) :
    WithinDesign cfg (l.demandStep cfg phase regen curtail period r) := by
  obtain ⟨hdemand, hheld⟩ := h
  unfold LoopLive.demandStep
  split
  · exact ⟨hdemand, hheld⟩
  · refine ⟨?_, hheld⟩
    exact Nat.div_le_of_le_mul (by rw [Nat.mul_comm]; exact Nat.mul_le_mul_right _ hregen)
  · exact ⟨hdemand, hheld⟩
  · split
    · unfold LoopLive.failDemand
      dsimp only
      split
      · exact ⟨hdemand, hdemand⟩
      · split
        · exact ⟨hheld, hheld⟩
        · exact ⟨(curtailed_le _ hcurtail).trans (Nat.min_le_right _ _), hheld⟩
    · exact ⟨(curtailed_le _ hcurtail).trans (computed_le phase _), hheld⟩

theorem slotsLegal_iff (s : State) : SlotsLegal s ↔ AllGens SlotLevels (fun _ => True) s ∧
    ∀ n : Fin 4, WithinDesign s.cfg.loops[n.val] s.heat.loops[n.val] ∧
      (s.node.state = .unset → (s.heat.loops[n.val]).demand = 0 ∧ (s.heat.loops[n.val]).held = 0) := by
  simp only [SlotsLegal, AllGens, SlotLevels, WithinDesign, and_true, and_assoc]

/-- Every loop's demand and held demand stand within its design heat, and are 0 in UNSET. -/
def DemandsLegal (s : State) : Prop := ∀ n : Fin 4, WithinDesign s.cfg.loops[n.val] s.heat.loops[n.val] ∧
  (s.node.state = .unset → (s.heat.loops[n.val]).demand = 0 ∧ (s.heat.loops[n.val]).held = 0)

/-- Demands and held demands stand, and UNSET is not entered. -/
theorem DemandsLegal.congr {s t : State} (h : DemandsLegal s) (hcfg : t.cfg = s.cfg)
    (hloops : ∀ n : Fin 4, (t.heat.loops[n.val]).demand = (s.heat.loops[n.val]).demand ∧
      (t.heat.loops[n.val]).held = (s.heat.loops[n.val]).held) (hstate : t.node.state = .unset → s.node.state = .unset) :
    DemandsLegal t := by
  intro n
  obtain ⟨hdemand, hheld⟩ := hloops n
  obtain ⟨hwithin, hunset⟩ := h n
  rw [hcfg, WithinDesign, hdemand, hheld]
  exact ⟨hwithin, fun hu => hunset (hstate hu)⟩

/-- The heat record stands, and UNSET is not entered. -/
theorem DemandsLegal.of_heat {s t : State} (h : DemandsLegal s) (hcfg : t.cfg = s.cfg) (hheat : t.heat = s.heat)
    (hstate : t.node.state = .unset → s.node.state = .unset) : DemandsLegal t :=
  h.congr hcfg (fun _ => by rw [hheat]; exact ⟨rfl, rfl⟩) hstate

/-- In LISTEN, RUN and MUTE the regeneration request and the curtail are those of the configuration, 0 to 1000 (R86). -/
theorem regen_curtail_le {s : State} (hc : ConfigLegal s.cfg) (hf : FogLegal s) (hop : s.operating = true) :
    s.fog.regen ≤ 1000 ∧ s.fog.curtail ≤ 1000 := by
  obtain ⟨-, -, -, -, -, ⟨-, -, -, -, -, -, -, -, hregens, hcurtails⟩, -⟩ := hc
  obtain ⟨-, -, -, -, -, hout⟩ := hf
  obtain ⟨hregen, hcurtail⟩ := hout (ne_unset_of_operating hop)
  rw [hregen, hcurtail]
  exact ⟨hregens _, hcurtails _⟩

/-- Step 2 of an evaluation keeps demands within the design heat (R96 to R99). -/
theorem computeDemands_within {s : State} (hc : ConfigLegal s.cfg) (hf : FogLegal s) (h : DemandsLegal s) (hop : s.operating = true)
    (n : Fin 4) : WithinDesign s.cfg.loops[n.val] s.computeOffer.computeDemands.heat.loops[n.val] := by
  obtain ⟨hregen, hcurtail⟩ := regen_curtail_le hc hf hop
  have hoffer : s.computeOffer.heat.loops = s.heat.loops := by
    unfold State.computeOffer
    split
    · unfold HeatLive.sourceStep
      dsimp only
      split <;> rfl
    · rfl
  simp only [State.computeDemands, State.setHeat_heat, mapAt_getElem, hoffer]
  obtain ⟨hwithin, -⟩ := h n
  simpa using demandStep_within hwithin s.light.phase hregen hcurtail _ _

/-- A loop's held demand stands in the later steps of an evaluation (R101 to R106). -/
theorem evaluateShare_held (s : State) (n : Fin 4) :
    (s.evaluateShare.heat.loops[n.val]).held = (s.computeOffer.computeDemands.heat.loops[n.val]).held := by
  rw [State.evaluateShare, writeDuties_loops]
  split <;> simp [State.computeGrants]

/-- A backup judgement leaves the demands (R107). -/
theorem judgeBackup_held (l : LoopLive) (cfg : LoopConfig) : (l.judgeBackup cfg).held = l.held := by
  unfold LoopLive.judgeBackup
  dsimp only
  (repeat' split) <;> rfl

/-- An entry into MUTE leaves the demands (R105). -/
theorem enterMute_demands (s : State) (k : MuteKind) (n : Fin 4) :
    ((s.enterMute k).heat.loops[n.val]).demand = (s.heat.loops[n.val]).demand ∧
      ((s.enterMute k).heat.loops[n.val]).held = (s.heat.loops[n.val]).held := by
  simp only [State.enterMute, State.setNodeState, State.setNode_heat, writeZeroDuties_loops]
  cases hcls : (s.cfg.loops[n.val]).cls <;> simp [hcls, HeatLive.withoutGrants]

theorem clash_demands (s : State) (n : Fin 4) :
    (s.clash.heat.loops[n.val]).demand = (s.heat.loops[n.val]).demand ∧
      (s.clash.heat.loops[n.val]).held = (s.heat.loops[n.val]).held := by
  unfold State.clash
  split
  · exact ⟨rfl, rfl⟩
  · simpa using enterMute_demands (s.raise .addressClash) .clash n

theorem lineStuck_demands (s : State) (n : Fin 4) :
    (s.lineStuck.heat.loops[n.val]).demand = (s.heat.loops[n.val]).demand ∧
      (s.lineStuck.heat.loops[n.val]).held = (s.heat.loops[n.val]).held := by
  unfold State.lineStuck
  dsimp only
  split
  · exact ⟨rfl, rfl⟩
  · simpa using enterMute_demands (s.raise .lineStuck) .stuck n

/-- Every case of `Event` keeps the demands legal where configuration and Fog Guard are. -/
theorem Event.demandsLegal {c : Instr} {s t : State} (hcfg : ConfigLegal s.cfg) (hfog : FogLegal s) (hs : DemandsLegal s)
    (h : Event c s t) : DemandsLegal t := by
  cases h with
  | powerOn | pinAssertion =>
    intro n
    fin_cases n <;> exact ⟨⟨Nat.zero_le _, Nat.zero_le _⟩, fun _ => ⟨rfl, rfl⟩⟩
  | write p w d cfg clamped hc hunset hw =>
    intro n
    obtain ⟨-, hzero⟩ := hs n
    obtain ⟨hdemand, hheld⟩ := hzero hunset
    refine ⟨⟨?_, ?_⟩, fun _ => ⟨hdemand, hheld⟩⟩
    · exact hdemand.trans_le (Nat.zero_le _)
    · exact hheld.trans_le (Nat.zero_le _)
  | start p q hc hunset =>
    refine hs.congr (by simp) (fun n => ?_) fun hu => absurd (by simpa using hu) (startNode_ne_unset (s.setPort p))
    simp [State.startNode, State.enterStarting, LoopLive.atStarting]
  | restart p q hc hop =>
    refine hs.congr (by simp) (fun n => ?_) fun hu => absurd (by simpa using hu) (restartNode_ne_unset (s.setPort p))
    simp [State.restartNode, State.enterStarting, LoopLive.atStarting]
  | zeroConvert n raw hc hdue => exact hs.of_heat (by simp) (by simp) zeroConvert_unset
  | expirePeriod hc hop =>
    intro n
    obtain ⟨hdemand, -⟩ := evaluateShare_demand_grant s n
    have hheat : s.expirePeriod.heat = s.evaluateShare.heat := by simp [State.expirePeriod]
    have hkeep : s.expirePeriod.cfg = s.cfg := by simp
    rw [hkeep, hheat, WithinDesign, hdemand, evaluateShare_held]
    exact ⟨computeDemands_within hcfg hfog hs hop n, fun hu => absurd (expirePeriod_unset hu) (ne_unset_of_operating hop)⟩
  | receive f hc hv hop hidle =>
    have hclosed : DemandsLegal (s.scoreDown.setAccess .closed) := hs
    unfold State.receiveValid
    dsimp only
    split
    · exact hclosed.congr (by simp) (clash_demands _) fun hu => by simp at hu
    · exact hclosed.of_heat (by simp) (by simp) fun hu => by simpa using hu
  | stuckLine hc hop => exact hs.congr (by simp) (lineStuck_demands s) (lineStuck_unset hop)
  | stuckLineEnd hc hstuck hidle => exact hs.of_heat (by simp) (by simp) fun hu => absurd hu (endStuckLine_ne_unset s)
  | backup hop =>
    refine hs.congr (by simp) (fun n => ?_) fun hu => by simpa using hu
    simp [State.judgeBackups, judgeBackup_demand_grant, judgeBackup_held]
  | timerRunsOut m hop =>
    refine hs.congr rfl (fun n => ?_) fun hu => hu
    rw [State.setHeat_heat, setAt_getElem]
    split
    · rename_i e
      obtain rfl := Fin.ext e
      exact ⟨rfl, rfl⟩
    · exact ⟨rfl, rfl⟩
  | _ =>
    refine hs.of_heat ?_ ?_ fun hu => ?_
    · simp [State.touchPort]
    · simp [State.touchPort]
    · simpa [State.touchPort] using hu

/-- Every case of `Event` keeps the slots at levels where configuration, Fog Guard and the caps are legal. -/
theorem Event.slotsLegal {c : Instr} {s t : State} (hcfg : ConfigLegal s.cfg) (hfog : FogLegal s) (hcaps : CapsLegal s)
    (hs : SlotsLegal s) (h : Event c s t) : SlotsLegal t := by
  obtain ⟨hlevels, hdemands⟩ := (slotsLegal_iff s).mp hs
  obtain ⟨-, -, -, ⟨-, hslewed⟩, -⟩ := hcaps
  refine (slotsLegal_iff t).mpr ⟨h.allGens kept_slotLevels hlevels ?_ ?_, h.demandsLegal hcfg hfog hdemands⟩
  · exact fun x => (Nat.min_le_right _ _).trans hslewed
  · intro hop n
    obtain ⟨hgrant, -⟩ := ownGrant_le s.computeOffer.computeDemands n
    obtain ⟨hdemand, -⟩ := computeDemands_within hcfg hfog hdemands hop n
    exact dutyOf_le (hgrant.trans hdemand)

/-- Settles O11: what `Kept` says, for legal records and for slots at levels, by every case of `Event` and by an idle step. -/
theorem stepKeepsGensLegal : Obligations.StepKeepsGensLegal := by
  constructor
  · intro s t hs h
    refine step_keeps (P := GensLegal) (fun _ _ hs => hs) (fun u hu => AllGens.elapse kept_legal hu) (fun c u v hu hv => ?_) hs h
    exact hv.allGens kept_legal hu (fun _ => trivial) fun _ _ => trivial
  · intro s t hcfg hfog hcaps hs h
    rcases step_cases h with rfl | ⟨c, rest, hc⟩
    · obtain ⟨hlevels, hdemands⟩ := (slotsLegal_iff s).mp hs
      exact (slotsLegal_iff _).mpr ⟨AllGens.elapse kept_slotLevels hlevels, hdemands⟩
    · exact hc.slotsLegal (s := s.setPending rest) hcfg hfog hcaps hs

end Sys2Proof.Machine

/-!
PROOFS. The reset values (O4), the entries into STARTING by START and RESTART (O18, O20), the refused actions (O19) and PULSE (O22).
-/
namespace Sys2Proof.Machine

/-! ### Reset -/

/-- Settles O4: each block's power-on record is legal, and the values stand in the records of reset. -/
theorem resetLeavesTheStatedValues : Obligations.ResetLeavesTheStatedValues := by
  refine ⟨⟨.of_empty rfl, ?_, .of_clear rfl, ?_, ?_, ?_, kept_legal.all_powerOn, measLegal_powerOn, configLegal_powerOn⟩,
    rfl, rfl, rfl, ?_, rfl, rfl, rfl, rfl, rfl, rfl, rfl, rfl, rfl, rfl, rfl, rfl, ?_, ?_, rfl, rfl, rfl, rfl, rfl, .of_nil rfl, ?_⟩
  · exact ⟨⟨Nat.zero_le _, nofun, fun _ => Nat.zero_le _⟩, ⟨Nat.zero_le _, Nat.zero_le _⟩, .empty, Nat.zero_le _, attempt_of_none,
      ⟨nofun, fun hs => absurd hs Bool.false_ne_true⟩, fun _ => ⟨rfl, rfl⟩⟩
  · refine .of_zero fun n => ?_
    fin_cases n <;> rfl
  · exact .of_clear rfl rfl rfl rfl rfl rfl rfl rfl fun hset => absurd rfl hset
  · exact .of_open ⟨Nat.zero_le _, show 300 ≤ 1000 by decide⟩ (Nat.le_refl 1000) rfl
  · intro i
    simp [State.reset, NodeControl.powerOn, CauseEntry.clear]
  · intro n
    simp [State.reset, Generators.powerOn, Dimmer.powerOn, Generator.powerOn]
  · intro n
    simp [pinDrive, State.reset, NodeControl.powerOn]
  · refine (slotsLegal_iff _).mpr ⟨kept_slotLevels.all_powerOn, fun n => ?_⟩
    fin_cases n <;> exact ⟨⟨Nat.zero_le _, Nat.zero_le _⟩, fun _ => ⟨rfl, rfl⟩⟩

/-! ### The schedules of a start -/

/-- The channels a scan converts, in ascending index (R7). -/
theorem usedChannels_spec (cfg : Configuration) : (usedChannels cfg).Pairwise (· < ·) ∧
    ∀ n : Fin 12, n ∈ usedChannels cfg ↔ (cfg.channels[n.val]).kind ≠ .unused :=
  ⟨(List.pairwise_lt_finRange 12).filter _, fun n => by simp [usedChannels]⟩

/-- The channels a start measures, in ascending index (R5). -/
theorem measuringChannels_spec (cfg : Configuration) : (measuringChannels cfg).Pairwise (· < ·) ∧
    ∀ n : Fin 12, n ∈ measuringChannels cfg ↔ MeasuresZero cfg n :=
  ⟨(usedChannels_spec cfg).1.filter _, fun n => by simp [measuringChannels, usedChannels, MeasuresZero, and_comm]⟩

/-- The eight rounds are empty exactly where no channel measures its zero (R5). -/
theorem rounds_isEmpty (cfg : Configuration) :
    ((List.replicate 8 (measuringChannels cfg)).flatten).isEmpty = true ↔ ∀ n, ¬MeasuresZero cfg n := by
  have hempty : ((List.replicate 8 (measuringChannels cfg)).flatten).isEmpty = true ↔ measuringChannels cfg = [] := by
    simp [List.isEmpty_iff, List.replicate]
  rw [hempty, List.eq_nil_iff_forall_not_mem]
  exact forall_congr' fun n => not_congr ((measuringChannels_spec cfg).2 n)

/-- Whether some pin carries a function (R148). -/
theorem pinOf_isSome (cfg : Configuration) (f : PinFunction) :
    (pinOf cfg f).isSome = decide (∃ p : Fin 24, (cfg.pins[p.val]).function = f) := by
  rw [Bool.eq_iff_iff, decide_eq_true_eq]
  simp [pinOf]

/-! ### Entries into LISTEN and STARTING -/

/-- The whole entry into LISTEN: no release observed, an expiry count of 0, the take marker clear, and a RECALL in its place (R18, R36,
R128). -/
theorem enterListen_eq (s : State) : s.enterListen = { s with
    node := { s.node with state := .listen }
    line := { s.line with
      access := .noRelease, queue := { s.line.queue with recallPlace := some { frame := .recall, attempt := 0 } } }
    comp := { s.comp with expiryCount := 0 }
    light := { s.light with takeMarker := false } } := rfl

/-- The end of STARTING: the first scan, the cue inputs, and the entry into LISTEN (R7, R148, R156). -/
theorem endStarting_eq (s : State) : s.endStarting = { s with
    meas := { s.meas with scanSchedule := usedChannels s.cfg }
    pins := { s.pins with cueInputs := mapAt s.pins.cueInputs fun n c => c.atListen (pinOf s.cfg (.cueIn n)).isSome }
    node := { s.node with state := .listen }
    line := { s.line with
      access := .noRelease, queue := { s.line.queue with recallPlace := some { frame := .recall, attempt := 0 } } }
    comp := { s.comp with expiryCount := 0 }
    light := { s.light with takeMarker := false } } := rfl

/-- What an entry into STARTING leaves of s but for what the two commands add: the phase, the fades, the generators, the node record and
the port. -/
structure EntersStarting (s u : State) : Prop where
  cfg : u.cfg = s.cfg
  meas : u.meas = s.enterStarting.meas
  comp : u.comp = .powerOn
  peers : u.peers = []
  line : u.line = s.enterStarting.line
  ice : u.ice = s.ice.atStarting
  fog : u.fog = s.fog.atStarting s.cfg.fog
  heat : u.heat = s.enterStarting.heat
  light : u.light = { s.light.atStarting with phase := u.light.phase, fades := u.light.fades }
  pins : u.pins = s.enterStarting.pins
  state : u.node.state = .starting
  causes : u.node.causes = Vector.replicate 12 .clear
  resetHeld : u.resetHeld = s.resetHeld
  freeCount : u.freeCount = s.freeCount

/-- The records of the channels after an entry into STARTING (R5, R15). -/
theorem atStarting_started (k : ChannelConfig) (c : ChannelLive) : ChannelStarted k c (c.atStarting k) :=
  ⟨fun hunused => if_pos hunused, fun hused => if_neg hused⟩

/-- The clauses of `StartingEntered` that the end of STARTING does not reach. -/
theorem EntersStarting.keeps {s u : State} (h : EntersStarting s u) :
    (∃ round : List (Fin 12), round.Pairwise (· < ·) ∧ (∀ n, n ∈ round ↔ MeasuresZero s.cfg n) ∧
      u.meas.zeroSchedule = (List.replicate 8 round).flatten) ∧
    (∀ n : Fin 12, ChannelStarted s.cfg.channels[n.val] s.meas.channels[n.val] u.meas.channels[n.val]) ∧
    (u.heat = { s.heat with loops := u.heat.loops } ∧ ∀ n : Fin 4, u.heat.loops[n.val] =
      { s.heat.loops[n.val] with failureTimer := none, grant := 0, duty := 0, backup := false, holdCount := none }) ∧
    ∀ i : Fin 12, u.node.causes[i.val] = { flag := false, count := 0 } := by
  obtain ⟨hsorted, hmeasuring⟩ := measuringChannels_spec s.cfg
  refine ⟨⟨_, hsorted, hmeasuring, by rw [h.meas]; rfl⟩, fun n => ?_, ⟨by rw [h.heat]; rfl, fun n => ?_⟩, fun i => ?_⟩
  · have hchannel : u.meas.channels[n.val] = (s.meas.channels[n.val]).atStarting s.cfg.channels[n.val] := by
      simp only [h.meas, State.enterStarting, State.setNodeState, State.clearCauses, State.setNode_meas, State.setPort_meas, mapAt_getElem,
        Fin.getElem_fin]
    rw [hchannel]
    exact atStarting_started _ _
  · simp only [h.heat, State.enterStarting, State.setNodeState, State.clearCauses, State.setNode_heat, State.setPort_heat, mapAt_getElem,
      LoopLive.atStarting]
  · rw [h.causes]
    simp [CauseEntry.clear]

/-- Where some channel measures its zero, the node stays in STARTING (R156). -/
theorem endStartingIfDone_of_measures {u : State} (h : u.meas.zeroSchedule.isEmpty = false) : u.endStartingIfDone = u := by
  rw [State.endStartingIfDone, h]
  rfl

/-- Where none does, STARTING ends at once (R156). -/
theorem endStartingIfDone_of_none {u : State} (h : u.meas.zeroSchedule.isEmpty = true) : u.endStartingIfDone = u.endStarting :=
  if_pos h

/-- An entry into STARTING, with the end of STARTING where no channel measures its zero (R156). -/
theorem EntersStarting.entered {s u : State} (h : EntersStarting s u) : StartingEntered s u.endStartingIfDone := by
  obtain ⟨hround, hchannels, hheat, hcauses⟩ := h.keeps
  have hschedule : u.meas.zeroSchedule.isEmpty = true ↔ ∀ n, ¬MeasuresZero s.cfg n := by
    rw [h.meas]
    exact rounds_isEmpty s.cfg
  cases he : u.meas.zeroSchedule.isEmpty with
  | false =>
    have hsome : ¬∀ n, ¬MeasuresZero s.cfg n := fun hnone => by rw [hschedule.mpr hnone] at he; cases he
    rw [endStartingIfDone_of_measures he]
    refine ⟨fun _ => ⟨h.state, by rw [h.line]; rfl, by rw [h.meas]; rfl, fun n => ?_⟩, fun hnone => absurd hnone hsome, hround,
      hchannels, h.comp, h.peers, by rw [h.line]; rfl, h.ice, h.fog, hheat, by rw [h.light]; rfl, hcauses, h.cfg, by rw [h.pins]; rfl,
      h.resetHeld, h.freeCount⟩
    rw [h.pins]
    fin_cases n <;> rfl
  | true =>
    have hnone := hschedule.mp he
    rw [endStartingIfDone_of_none he]
    obtain ⟨hsorted, hused⟩ := usedChannels_spec s.cfg
    rw [endStarting_eq]
    refine ⟨fun ⟨n, hn⟩ => absurd hn (hnone n), fun _ => ⟨rfl, ?_, ?_, ?_, fun n => ?_⟩, hround, hchannels, ?_, h.peers, ?_, h.ice, h.fog,
      hheat, ?_, hcauses, h.cfg, ?_, h.resetHeld, h.freeCount⟩
    · rw [h.line]
      rfl
    · rw [h.cfg]
      exact hsorted
    · rw [h.cfg]
      exact hused
    · rw [mapAt_getElem, h.pins, h.cfg, pinOf_isSome]
      fin_cases n <;> rfl
    · rw [h.comp]
      rfl
    · rw [h.line]
      rfl
    · rw [h.light]
      rfl
    · rw [h.pins]
      rfl

/-- The entry into STARTING by START (R155, R156). -/
theorem startNode_entered (s : State) : StartingEntered s s.startNode :=
  EntersStarting.entered (u := ((s.setStartFault .noFault 0).enterStarting).setLight
      { (s.setStartFault .noFault 0).enterStarting.light with phase := s.cfg.node.startPhase })
    ⟨rfl, rfl, rfl, rfl, rfl, rfl, rfl, rfl, rfl, rfl, rfl, rfl, rfl, rfl⟩

/-- The entry into STARTING by RESTART (R156, R158). -/
theorem restartNode_entered (s : State) : StartingEntered s s.restartNode := by
  unfold State.restartNode
  refine EntersStarting.entered ?_
  constructor <;> simp
  case comp => rfl
  case fog => rfl
  case causes => rfl

/-- An entry into STARTING makes the captured cause set absent (R159). -/
@[simp] theorem enterStarting_port (s : State) : s.enterStarting.port = { s.port with capturedSet := none } := rfl

@[simp] theorem startNode_port (s : State) : s.startNode.port = { s.port with capturedSet := none } := by
  simp [State.startNode]

@[simp] theorem restartNode_port (s : State) : s.restartNode.port = { s.port with capturedSet := none } := by
  simp [State.restartNode]

/-! ### START -/

/-- Settles O18: the transaction reaches the action START, whose checks pass. -/
theorem startEntersStarting : Obligations.StartEntersStarting := by
  intro s hready hunset hpass
  obtain ⟨p, hidle, hwait, hresult, hpointer, -, htransact⟩ := transact_action_setPort (c := codeOf 15 0) (n := 0) rfl s
  have hstart : (s.setPort p).applyAction 0 = (s.setPort p).startNode.setResult .applied :=
    actStart_of_pass (s := s.setPort p) hunset hpass
  refine ⟨(s.setPort p).startNode.setResult .applied, (takenIf_of_true hready).trans (by rw [htransact, hstart]), startNode_entered (s.setPort p), ?_⟩
  obtain ⟨m, hlight⟩ := startNode_light (s.setPort p)
  simp only [State.setResult, State.setPort_node, State.setPort_light, State.setPort_gens, State.setPort_port, startNode_port, hlight]
  refine ⟨?_, ?_, ?_, rfl, rfl, ?_, trivial, trivial, hpointer, hwait, hidle⟩
  all_goals simp [State.startNode, State.setStartFault]

/-! ### RESTART -/

/-- A valve generator after a RESTART is written 0 (R141). -/
theorem writeZeroValves_valves (s : State) (n : Fin 4) :
    s.writeZeroValves.gens.valves[n.val] = (s.gens.valves[n.val]).write 0 := by
  rw [State.writeZeroValves, show List.finRange 4 = [0, 1, 2, 3] from rfl]
  simp only [List.foldl_cons, List.foldl_nil, State.writeValve, State.setGens_gens, setAt_getElem]
  fin_cases n <;> simp [setAt_getElem]

/-- A 0 written to a valve generator, by its run condition (R133, R134; log entry 36). -/
theorem write_zero_cases (v : Generator) :
    (v.running = true → v.active = .a → v.write 0 = { v with slotB := 0, written := true }) ∧
      (v.running = true → v.active = .b → v.write 0 = { v with slotA := 0, written := true }) ∧
      (v = .powerOn → v.write 0 = { v with running := true, active := .b }) := by
  refine ⟨fun hrunning hactive => ?_, fun hrunning hactive => ?_, fun hpower => ?_⟩
  · rw [Generator.write, if_pos hrunning, Generator.place, hactive]
  · rw [Generator.write, if_pos hrunning, Generator.place, hactive]
  · subst hpower
    rfl

/-- Settles O20: the transaction reaches the action RESTART, which the node state lets through. -/
theorem restartKeepsAndClears : Obligations.RestartKeepsAndClears := by
  intro s hready hop
  obtain ⟨p, hidle, hwait, hresult, hpointer, -, htransact⟩ := transact_action_setPort (c := codeOf 15 1) (n := 1) rfl s
  have hrestart : (s.setPort p).applyAction 1 = (s.setPort p).restartNode.setResult .applied :=
    actRestart_of_operating (s := s.setPort p) hop
  refine ⟨(s.setPort p).restartNode.setResult .applied, (takenIf_of_true hready).trans (by rw [htransact, hrestart]), restartNode_entered (s.setPort p), ?_⟩
  obtain ⟨m, hlight⟩ := restartNode_light (s.setPort p)
  simp only [State.setResult, State.setPort_node, State.setPort_light, State.setPort_gens, State.setPort_port, restartNode_port, hlight]
  refine ⟨?_, ?_, ?_, rfl, fun n => ?_, ⟨?_, ?_⟩, trivial, trivial, hpointer, hwait, hidle⟩
  · simp [State.restartNode]
  · simp [State.restartNode]
  · simp [State.restartNode]
  · rw [mapAt_getElem]
    rfl
  · simp [State.restartNode]
  · rintro n v rfl
    have hvalve : (s.setPort p).restartNode.gens.valves[n.val] = (s.gens.valves[n.val]).write 0 := by
      simp [State.restartNode, writeZeroValves_valves]
    rw [hvalve]
    exact write_zero_cases _

/-! ### Refused actions -/

/-- An action answered by a result alone changes the port alone (R168). -/
theorem action_portOnly {c : Code} {n : Fin 5} (hc : windowOfCode c = some (.action n)) {s : State} {r : PortResult}
    (h : ∀ p, (s.setPort p).applyAction n = (s.setPort p).setResult r) :
    ∃ t, s.transact c actionBits = t ∧ PortOnly s t r := by
  obtain ⟨p, hidle, hwait, -, hpointer, hset, htransact⟩ := transact_action_setPort hc s
  exact ⟨_, rfl, { p with lastResult := r }, by rw [htransact, h p]; rfl, rfl, hpointer, hset, hwait, hidle⟩

/-- Settles O19: each refusal by the node state answers its result; a failed START records the fault of its checks beside it. -/
theorem refusedActionsChangeNothing : Obligations.RefusedActionsChangeNothing := by
  intro s hready
  have hpulse : ∀ n : Fin 2, windowOfCode (codeOf 15 (3 + n.val)) = some (.action ⟨3 + n.val, by omega⟩) := by
    intro n
    fin_cases n <;> rfl
  have hact : ∀ (n : Fin 2) (u : State), u.applyAction ⟨3 + n.val, by omega⟩ = u.actPulse n := by
    intro n u
    fin_cases n <;> rfl
  refine ⟨fun hset => ?_, fun k hunset hk => ?_, fun hunset => ?_, fun hstarting => ?_, fun hstarting => ?_, fun n hunset => ?_,
    fun n hstarting => ?_⟩
  · obtain ⟨t, ht, honly⟩ := action_portOnly (c := codeOf 15 0) (n := 0) rfl fun p => actStart_of_not_unset (s := s.setPort p) hset
    exact ⟨t, (takenIf_of_true hready).trans (congrArg _ ht), honly⟩
  · obtain ⟨p, hidle, hwait, -, hpointer, hset, htransact⟩ := transact_action_setPort (c := codeOf 15 0) (n := 0) rfl s
    have hfault : (s.setPort p).applyAction 0 = ((s.setPort p).setStartFault k.fault k.index).setResult .refusedValue :=
      actStart_of_fault (s := s.setPort p) hunset hk
    exact ⟨((s.setPort p).setStartFault k.fault k.index).setResult .refusedValue,
      (takenIf_of_true hready).trans (by rw [htransact, hfault]), { p with lastResult := .refusedValue }, rfl, rfl, hpointer,
      hset, hwait, hidle⟩
  · obtain ⟨t, ht, honly⟩ := action_portOnly (c := codeOf 15 1) (n := 1) rfl fun p => actRestart_of_unset (s := s.setPort p) hunset
    exact ⟨t, (takenIf_of_true hready).trans (congrArg _ ht), honly⟩
  · obtain ⟨t, ht, honly⟩ :=
      action_portOnly (c := codeOf 15 1) (n := 1) rfl fun p => actRestart_of_starting (s := s.setPort p) hstarting
    exact ⟨t, (takenIf_of_true hready).trans (congrArg _ ht), honly⟩
  · obtain ⟨t, ht, honly⟩ := action_portOnly (c := codeOf 15 2) (n := 2) rfl fun p => actAck_of_starting (s := s.setPort p) hstarting
    exact ⟨t, (takenIf_of_true hready).trans (congrArg _ ht), honly⟩
  · obtain ⟨t, ht, honly⟩ :=
      action_portOnly (hpulse n) fun p => (hact n _).trans (actPulse_of_unset (s := s.setPort p) hunset n)
    exact ⟨t, (takenIf_of_true hready).trans (congrArg _ ht), honly⟩
  · obtain ⟨t, ht, honly⟩ :=
      action_portOnly (hpulse n) fun p => (hact n _).trans (actPulse_of_starting (s := s.setPort p) hstarting n)
    exact ⟨t, (takenIf_of_true hready).trans (congrArg _ ht), honly⟩

/-! ### PULSE -/

/-- Settles O22: the transaction reaches the action PULSE n, and an origination is that of `originate_originated`, which reads no port. -/
theorem pulseOriginatesItsCue : Obligations.PulseOriginatesItsCue := by
  intro s n hready hop
  have hwindow : windowOfCode (codeOf 15 (3 + n.val)) = some (.action ⟨3 + n.val, by omega⟩) := by
    fin_cases n <;> rfl
  obtain ⟨p, hidle, hwait, -, hpointer, hset, htransact⟩ := transact_action_setPort hwindow s
  have hact : (s.setPort p).applyAction ⟨3 + n.val, by omega⟩ = (s.setPort p).actPulse n := by
    fin_cases n <;> rfl
  have hpulse : s.transact (codeOf 15 (3 + n.val)) actionBits = ((s.setPort p).originate n).setResult .applied :=
    htransact.trans (hact.trans (actPulse_of_operating (s := s.setPort p) hop n))
  obtain ⟨hframe, horiginated⟩ := originate_originated (s.setPort p) n
  refine ⟨((s.setPort p).originate n).setPort s.port, { p with lastResult := .applied },
    (takenIf_of_true hready).trans (congrArg _ (hpulse.trans ?_)), ⟨congrArg (fun u => State.setPort u s.port) hframe, horiginated⟩, rfl, hidle,
    hpointer, hset, hwait⟩
  have hport : ((s.setPort p).originate n).port = p := by simp
  rw [State.setResult, hport]
  rfl

end Sys2Proof.Machine

/-!
PROOFS. The checks of START (O17): each pass finds the first case of its pass, and the passes are tried in their order.
-/
namespace Sys2Proof.Machine

/-! ### Passes and their order -/

/-- A pass of START finds the case of its pass tested first, or none where no case of the pass holds. -/
def FindsFirst (cfg : Configuration) (pass : Nat) (o : Option StartCheck) : Prop :=
  (∀ c, o = some c → startPass c.fault = pass ∧ StartCase cfg c.fault c.index ∧
    ∀ g j, startPass g = pass → StartCase cfg g j → ¬(j < c.index ∨ j = c.index ∧ startFaultCode g < startFaultCode c.fault)) ∧
  (o = none → ∀ g j, startPass g = pass → ¬StartCase cfg g j)

/-- The passes from one onward find the case among theirs that is tested first (R155). -/
def FindsFirstFrom (cfg : Configuration) (pass : Nat) (o : Option StartCheck) : Prop :=
  (∀ c, o = some c → pass ≤ startPass c.fault ∧ StartCase cfg c.fault c.index ∧
    ∀ g j, pass ≤ startPass g → StartCase cfg g j → ¬TestedBefore g j c.fault c.index) ∧
  (o = none → ∀ g j, pass ≤ startPass g → ¬StartCase cfg g j)

/-- Behind the last pass there is no case. -/
theorem findsFirstFrom_end (cfg : Configuration) : FindsFirstFrom cfg 7 none := by
  refine ⟨nofun, fun _ g j hlate => ?_⟩
  cases g <;> exact absurd hlate (by decide)

/-- A pass tried before the later ones. -/
theorem FindsFirst.orElse {cfg : Configuration} {pass : Nat} {o o' : Option StartCheck} (h : FindsFirst cfg pass o)
    (h' : FindsFirstFrom cfg (pass + 1) o') : FindsFirstFrom cfg pass (o.orElse fun _ => o') := by
  obtain ⟨hfound, hnone⟩ := h
  obtain ⟨hfound', hnone'⟩ := h'
  cases o with
  | some d =>
    refine ⟨fun c hc => ?_, nofun⟩
    cases hc
    obtain ⟨hpass, hcase, hfirst⟩ := hfound d rfl
    refine ⟨hpass.ge, hcase, fun g j hlate hg hbefore => ?_⟩
    rcases hbefore with hearlier | ⟨hsame, horder⟩
    · omega
    · exact hfirst g j (hsame.trans hpass) hg horder
  | none =>
    refine ⟨fun c hc => ?_, fun hc g j hlate => ?_⟩
    · obtain ⟨hpass, hcase, hfirst⟩ := hfound' c hc
      refine ⟨by omega, hcase, fun g j hlate hg => ?_⟩
      rcases Nat.eq_or_lt_of_le hlate with hsame | hlater
      · exact absurd hg (hnone rfl g j hsame.symm)
      · exact hfirst g j hlater hg
    · rcases Nat.eq_or_lt_of_le hlate with hsame | hlater
      · exact hnone rfl g j hsame.symm
      · exact hnone' hc g j hlater

/-- Two cases that differ are tested one before the other. -/
theorem testedBefore_total {f g : StartFault} {i j : Nat} (hf : f ≠ .noFault) (hg : g ≠ .noFault) (hfg : ¬TestedBefore f i g j)
    (hgf : ¬TestedBefore g j f i) : g = f ∧ j = i := by
  simp only [TestedBefore, not_or, not_and, Nat.not_lt] at hfg hgf
  have hpass : startPass g = startPass f := Nat.le_antisymm hfg.1 hgf.1
  obtain ⟨hij, hcodes⟩ := hfg.2 hpass.symm
  obtain ⟨hji, hcodes'⟩ := hgf.2 hpass
  have hindex : j = i := Nat.le_antisymm hij hji
  have hcode : startFaultCode g = startFaultCode f := Nat.le_antisymm (hcodes hindex.symm) (hcodes' hindex)
  refine ⟨?_, hindex⟩
  cases f <;> cases g <;> simp_all [startFaultCode]

/-! ### A pass of one case, and a pass over indexes -/

/-- A pass of one case at index 0. -/
theorem plainCheck_findsFirst {cfg : Configuration} {pass : Nat} {fails : Bool} {f : StartFault} (hpass : startPass f = pass)
    (hfails : fails = true ↔ StartCase cfg f 0) (honly : ∀ g j, startPass g = pass → StartCase cfg g j → g = f ∧ j = 0) :
    FindsFirst cfg pass (plainCheck fails f) := by
  unfold plainCheck
  split
  · rename_i h
    refine ⟨fun c hc => ?_, nofun⟩
    cases hc
    refine ⟨hpass, hfails.mp h, fun g j hg hcase => ?_⟩
    obtain ⟨rfl, rfl⟩ := honly g j hg hcase
    simp
  · rename_i h
    refine ⟨nofun, fun _ g j hg hcase => h ?_⟩
    obtain ⟨rfl, rfl⟩ := honly g j hg hcase
    exact hfails.mpr hcase

/-- A pass over indexes in ascending order finds the first, where each index finds the first of its own cases. -/
theorem findSome_findsFirst {cfg : Configuration} {pass n : Nat} {check : Fin n → Option StartCheck}
    (hfound : ∀ i c, check i = some c → c.index = i.val ∧ startPass c.fault = pass ∧ StartCase cfg c.fault i.val ∧
      ∀ g, startPass g = pass → StartCase cfg g i.val → ¬startFaultCode g < startFaultCode c.fault)
    (hnone : ∀ i, check i = none → ∀ g, startPass g = pass → ¬StartCase cfg g i.val)
    (hindex : ∀ g j, startPass g = pass → StartCase cfg g j → j < n) :
    FindsFirst cfg pass ((List.finRange n).findSome? check) := by
  refine ⟨fun c hc => ?_, fun hc g j hg hcase => ?_⟩
  · obtain ⟨before, i, after, hsplit, hi, hbefore⟩ := List.findSome?_eq_some_iff.mp hc
    obtain ⟨hci, hpass, hcase, hfirst⟩ := hfound i c hi
    rw [hci]
    refine ⟨hpass, hcase, fun g j hg hgj horder => ?_⟩
    rcases horder with hlow | ⟨rfl, hcode⟩
    · have hmem : (⟨j, hindex g j hg hgj⟩ : Fin n) ∈ before ++ i :: after := hsplit ▸ List.mem_finRange _
      have hsorted : (before ++ i :: after).Pairwise (· < ·) := hsplit ▸ List.pairwise_lt_finRange n
      obtain ⟨-, hrest, -⟩ := List.pairwise_append.mp hsorted
      obtain ⟨hafter, -⟩ := List.pairwise_cons.mp hrest
      rcases List.mem_append.mp hmem with hb | hb
      · exact hnone _ (hbefore _ hb) g hg hgj
      · rcases List.mem_cons.mp hb with rfl | hb
        · exact Nat.lt_irrefl _ hlow
        · exact Nat.lt_asymm hlow (hafter _ hb)
    · exact hfirst g hg hgj hcode
  · have hall := List.findSome?_eq_none_iff.mp hc
    exact hnone ⟨j, hindex g j hg hcase⟩ (hall _ (List.mem_finRange _)) g hg hcase

/-! ### The seven passes -/

/-- Whether some channel carries a binding (R3). -/
theorem bound_iff (cfg : Configuration) (b : Binding) : bound cfg b = true ↔ Carried cfg b := by
  simp [bound, channelOf, Carried]

/-- A channel's cases (R2). -/
theorem bindingRepeated_iff (cfg : Configuration) (n : Fin 12) : bindingRepeated cfg n = true ↔
    StartCase cfg .bindingRepeated n.val := by
  simp only [bindingRepeated, StartCase, Bool.and_eq_true, List.any_eq_true, List.mem_finRange, true_and, decide_eq_true_eq,
    Option.isSome_iff_exists, Fin.getElem_fin]
  constructor
  · rintro ⟨⟨b, hb⟩, m, hlow, hsame⟩
    exact ⟨n, m, b, rfl, hlow, hb, hsame.trans hb⟩
  · rintro ⟨n', m, b, hn, hlow, hb, hm⟩
    obtain rfl := Fin.ext hn
    exact ⟨⟨b, hb⟩, m, hlow, hm.trans hb.symm⟩

/-- The faults of the pass over the channels. -/
theorem startPass_channels {g : StartFault} (h : startPass g = 1) : g = .bindingRepeated ∨ g = .bindingKind ∨ g = .bindingUnused := by
  cases g <;> simp_all [startPass]

theorem channels_findsFirst (cfg : Configuration) : FindsFirst cfg 1 ((List.finRange 12).findSome? (channelCheck cfg)) := by
  have hcases : ∀ g (n : Fin 12), startPass g = 1 → StartCase cfg g n.val → ∃ b, (cfg.channels[n.val]).binding = some b ∧
      (g = .bindingRepeated → bindingRepeated cfg n = true) ∧
      (g = .bindingUnused → (cfg.channels[n.val]).kind = .unused) ∧
      (g = .bindingKind → (cfg.channels[n.val]).kind ≠ .unused ∧ (cfg.channels[n.val]).kind ≠ requiredKind b) := by
    intro g n hg hcase
    rcases startPass_channels hg with rfl | rfl | rfl
    · have hrepeated := (bindingRepeated_iff cfg n).mpr hcase
      obtain ⟨n', m, b, hn, -, hb, -⟩ := hcase
      obtain rfl := Fin.ext hn
      exact ⟨b, hb, fun _ => hrepeated, nofun, nofun⟩
    · obtain ⟨n', b, hn, hb, hused, hkind⟩ := hcase
      obtain rfl := Fin.ext hn
      exact ⟨b, hb, nofun, nofun, fun _ => ⟨hused, hkind⟩⟩
    · obtain ⟨n', hn, hkind, hbinding⟩ := hcase
      obtain rfl := Fin.ext hn
      obtain ⟨b, hb⟩ := Option.ne_none_iff_exists'.mp hbinding
      exact ⟨b, hb, nofun, fun _ => hkind, nofun⟩
  refine findSome_findsFirst (fun n c hc => ?_) (fun n hc g hg hcase => ?_) fun g j hg hcase => ?_
  · unfold channelCheck at hc
    split at hc
    · cases hc
    · rename_i b hb
      split at hc
      · rename_i hrepeated
        cases hc
        refine ⟨rfl, rfl, (bindingRepeated_iff cfg n).mp hrepeated, fun g hg hcase => ?_⟩
        rcases startPass_channels hg with rfl | rfl | rfl <;> simp [startFaultCode]
      · rename_i hsingle
        split at hc
        · rename_i hunused
          cases hc
          refine ⟨rfl, rfl, ⟨n, rfl, hunused, by rw [← Fin.getElem_fin, hb]; nofun⟩, fun g hg hcase => ?_⟩
          obtain ⟨b', -, hrep, -, hkind⟩ := hcases g n hg hcase
          rcases startPass_channels hg with rfl | rfl | rfl
          · exact absurd (hrep rfl) hsingle
          · exact absurd hunused (hkind rfl).1
          · exact Nat.lt_irrefl _
        · rename_i hused
          split at hc
          · rename_i hwrong
            cases hc
            refine ⟨rfl, rfl, ⟨n, b, rfl, hb, hused, hwrong⟩, fun g hg hcase => ?_⟩
            obtain ⟨b', -, hrep, -, -⟩ := hcases g n hg hcase
            rcases startPass_channels hg with rfl | rfl | rfl
            · exact absurd (hrep rfl) hsingle
            · exact Nat.lt_irrefl _
            · simp [startFaultCode]
          · cases hc
  · obtain ⟨b, hb, hrep, hunused, hkind⟩ := hcases g n hg hcase
    unfold channelCheck at hc
    rw [Fin.getElem_fin, hb] at hc
    dsimp only at hc
    split at hc
    · cases hc
    · rename_i hsingle
      split at hc
      · cases hc
      · rename_i hused
        split at hc
        · cases hc
        · rename_i hright
          rcases startPass_channels hg with rfl | rfl | rfl
          · exact hsingle (hrep rfl)
          · exact hright (hkind rfl).2
          · exact hused (hunused rfl)
  · rcases startPass_channels hg with rfl | rfl | rfl
    · obtain ⟨n, -, -, rfl, -⟩ := hcase
      exact n.isLt
    · obtain ⟨n, -, rfl, -⟩ := hcase
      exact n.isLt
    · obtain ⟨n, rfl, -⟩ := hcase
      exact n.isLt

/-- A loop's cases (R92). -/
theorem valveRepeated_iff (cfg : Configuration) (n : Fin 4) (hn : (cfg.loops[n.val]).cls ≠ none) :
    valveRepeated cfg n = true ↔ StartCase cfg .valveGenerator n.val := by
  simp only [valveRepeated, StartCase, Bool.and_eq_true, List.any_eq_true, List.mem_finRange, true_and, decide_eq_true_eq,
    Option.isSome_iff_ne_none, Fin.getElem_fin]
  constructor
  · rintro ⟨m, ⟨hlow, hm⟩, hsame⟩
    exact ⟨n, m, rfl, hlow, hn, hm, hsame⟩
  · rintro ⟨n', m, e, hlow, -, hm, hsame⟩
    obtain rfl := Fin.ext e
    exact ⟨m, ⟨hlow, hm⟩, hsame⟩

theorem backupPinWrong_iff (cfg : Configuration) (n : Fin 4) (hn : (cfg.loops[n.val]).cls ≠ none) :
    backupPinWrong cfg n = true ↔ StartCase cfg .backupPin n.val := by
  unfold backupPinWrong StartCase
  constructor
  · intro h
    split at h
    · rename_i p hp
      exact ⟨n, p, rfl, hn, hp, of_decide_eq_true h⟩
    · cases h
  · rintro ⟨n', p, e, -, hp, hwrong⟩
    obtain rfl := Fin.ext e
    rw [Fin.getElem_fin, hp]
    exact decide_eq_true hwrong

theorem loopTemperature_iff (cfg : Configuration) (n : Fin 4) {cls : HeatClass} (hn : (cfg.loops[n.val]).cls = some cls) :
    (cls ≠ .dry ∧ (!bound cfg (.loopT n)) = true) ↔ StartCase cfg .loopTemperature n.val := by
  rw [Bool.not_eq_true', ← Bool.not_eq_true, bound_iff]
  constructor
  · rintro ⟨hdry, hbound⟩
    exact ⟨n, cls, rfl, hn, hdry, hbound⟩
  · rintro ⟨n', c, e, hc, hdry, hbound⟩
    obtain rfl := Fin.ext e
    cases hn.symm.trans hc
    exact ⟨hdry, hbound⟩

theorem startPass_loops {g : StartFault} (h : startPass g = 3) : g = .loopTemperature ∨ g = .valveGenerator ∨ g = .backupPin := by
  cases g <;> simp_all [startPass]

/-- A loop case names a configured loop of that index (R92). -/
theorem loopCase_configured {cfg : Configuration} {g : StartFault} {j : Nat} (hg : startPass g = 3) (h : StartCase cfg g j) :
    ∃ n : Fin 4, j = n.val ∧ (cfg.loops[n.val]).cls ≠ none := by
  rcases startPass_loops hg with rfl | rfl | rfl
  · obtain ⟨n, c, e, hc, -⟩ := h
    exact ⟨n, e, by rw [hc]; nofun⟩
  · obtain ⟨n, -, e, -, hn, -⟩ := h
    exact ⟨n, e, hn⟩
  · obtain ⟨n, -, e, hn, -⟩ := h
    exact ⟨n, e, hn⟩

theorem loops_findsFirst (cfg : Configuration) : FindsFirst cfg 3 ((List.finRange 4).findSome? (loopCheck cfg)) := by
  refine findSome_findsFirst (fun n c hc => ?_) (fun n hc g hg hcase => ?_) fun g j hg hcase => ?_
  · unfold loopCheck at hc
    split at hc
    · cases hc
    · rename_i cls hcls
      have hn : (cfg.loops[n.val]).cls ≠ none := by
        rw [← Fin.getElem_fin, hcls]
        nofun
      split at hc
      · rename_i htemperature
        cases hc
        refine ⟨rfl, rfl, (loopTemperature_iff cfg n hcls).mp htemperature, fun g hg hcase => ?_⟩
        rcases startPass_loops hg with rfl | rfl | rfl <;> simp [startFaultCode]
      · rename_i htemperature
        split at hc
        · rename_i hvalve
          cases hc
          refine ⟨rfl, rfl, (valveRepeated_iff cfg n hn).mp hvalve, fun g hg hcase => ?_⟩
          rcases startPass_loops hg with rfl | rfl | rfl
          · exact absurd ((loopTemperature_iff cfg n hcls).mpr hcase) htemperature
          · exact Nat.lt_irrefl _
          · simp [startFaultCode]
        · rename_i hvalve
          split at hc
          · rename_i hpin
            cases hc
            refine ⟨rfl, rfl, (backupPinWrong_iff cfg n hn).mp hpin, fun g hg hcase => ?_⟩
            rcases startPass_loops hg with rfl | rfl | rfl
            · exact absurd ((loopTemperature_iff cfg n hcls).mpr hcase) htemperature
            · exact absurd ((valveRepeated_iff cfg n hn).mpr hcase) hvalve
            · exact Nat.lt_irrefl _
          · cases hc
  · obtain ⟨n', e, hn⟩ := loopCase_configured hg hcase
    obtain rfl := Fin.ext e
    obtain ⟨cls, hcls⟩ := Option.ne_none_iff_exists'.mp hn
    unfold loopCheck at hc
    rw [Fin.getElem_fin, hcls] at hc
    dsimp only at hc
    split at hc
    · cases hc
    · rename_i htemperature
      split at hc
      · cases hc
      · rename_i hvalve
        split at hc
        · cases hc
        · rename_i hpin
          rcases startPass_loops hg with rfl | rfl | rfl
          · exact htemperature ((loopTemperature_iff cfg n hcls).mpr hcase)
          · exact hvalve ((valveRepeated_iff cfg n hn).mpr hcase)
          · exact hpin ((backupPinWrong_iff cfg n hn).mpr hcase)
  · obtain ⟨n, rfl, -⟩ := loopCase_configured hg hcase
    exact n.isLt

/-- A function allowed once (R145). -/
theorem appearsOnce_iff (f : PinFunction) : appearsOnce f = true ↔ f ≠ .outHigh ∧ f ≠ .outLow ∧ f ≠ .input := by
  cases f <;> simp [appearsOnce]

theorem startPass_pins {g : StartFault} (h : startPass g = 4) : g = .pinFunction := by
  cases g <;> simp_all [startPass]

/-- The case of pin n (R145). -/
theorem pinCheck_iff (cfg : Configuration) (n : Fin 24) :
    (appearsOnce (cfg.pins[n]).function &&
      (List.finRange 24).any fun m => decide (m < n) && decide ((cfg.pins[m]).function = (cfg.pins[n]).function)) = true ↔
    StartCase cfg .pinFunction n.val := by
  simp only [StartCase, Bool.and_eq_true, List.any_eq_true, List.mem_finRange, true_and, decide_eq_true_eq, appearsOnce_iff,
    Fin.getElem_fin]
  constructor
  · rintro ⟨honce, m, hlow, hsame⟩
    exact ⟨n, m, rfl, hlow, hsame, honce⟩
  · rintro ⟨n', m, e, hlow, hsame, honce⟩
    obtain rfl := Fin.ext e
    exact ⟨honce, m, hlow, hsame⟩

theorem pins_findsFirst (cfg : Configuration) : FindsFirst cfg 4 ((List.finRange 24).findSome? (pinCheck cfg)) := by
  refine findSome_findsFirst (fun n c hc => ?_) (fun n hc g hg hcase => ?_) fun g j hg hcase => ?_
  · unfold pinCheck at hc
    split at hc
    · rename_i hwrong
      cases hc
      refine ⟨rfl, rfl, (pinCheck_iff cfg n).mp hwrong, fun g hg _ => ?_⟩
      rw [startPass_pins hg]
      exact Nat.lt_irrefl _
    · cases hc
  · unfold pinCheck at hc
    split at hc
    · cases hc
    · rename_i hright
      rw [startPass_pins hg] at hcase
      exact hright ((pinCheck_iff cfg n).mpr hcase)
  · rw [startPass_pins hg] at hcase
    obtain ⟨n, -, rfl, -⟩ := hcase
    exact n.isLt

theorem source_findsFirst (cfg : Configuration) : FindsFirst cfg 2 (plainCheck (sourcePartial cfg) .sourceBinding) := by
  refine plainCheck_findsFirst rfl ?_ fun g j hg hcase => ?_
  · simp only [sourcePartial, hasSource, StartCase, Bool.and_eq_true, Bool.or_eq_true, Bool.not_eq_true', ← Bool.not_eq_true, bound_iff,
      or_assoc, and_assoc, true_and]
  · cases g <;> simp_all [startPass, StartCase]

/-- The checks of START find the case tested first, or none where no case holds (R155). -/
theorem startChecks_findsFirst (cfg : Configuration) : FindsFirstFrom cfg 0 (startChecks cfg) := by
  have haddress : FindsFirst cfg 0 (plainCheck (decide (cfg.node.address = 0)) .address) := by
    refine plainCheck_findsFirst rfl (by simp [StartCase]) fun g j hg hcase => ?_
    cases g <;> simp_all [startPass, StartCase]
  have hice : FindsFirst cfg 5 (plainCheck (decide (cfg.ice.upper ≤ cfg.ice.lower)) .iceMargin) := by
    refine plainCheck_findsFirst rfl (by simp [StartCase]) fun g j hg hcase => ?_
    cases g <;> simp_all [startPass, StartCase]
  have hfog : FindsFirst cfg 6 (plainCheck (decide (cfg.fog.watch ≤ cfg.fog.act)) .fogThreshold) := by
    refine plainCheck_findsFirst rfl (by simp [StartCase]) fun g j hg hcase => ?_
    cases g <;> simp_all [startPass, StartCase]
  have hend : ∀ o : Option StartCheck, (o.orElse fun _ => none) = o := fun o => by cases o <;> rfl
  have hlast := hfog.orElse (findsFirstFrom_end cfg)
  rw [hend] at hlast
  exact haddress.orElse ((channels_findsFirst cfg).orElse ((source_findsFirst cfg).orElse ((loops_findsFirst cfg).orElse
    ((pins_findsFirst cfg).orElse (hice.orElse hlast)))))

/-- The checks pass where no case holds (R155). -/
theorem startChecks_eq_none (cfg : Configuration) : startChecks cfg = none ↔ ∀ f i, ¬StartCase cfg f i := by
  obtain ⟨hfound, hnone⟩ := startChecks_findsFirst cfg
  refine ⟨fun h f i => hnone h f i (Nat.zero_le _), fun h => ?_⟩
  rcases hcheck : startChecks cfg with _ | c
  · rfl
  · exact absurd (hfound c hcheck).2.1 (h _ _)

/-- The checks name the case tested first (R155). -/
theorem startChecks_eq_some (cfg : Configuration) (f : StartFault) (i : Nat) :
    startChecks cfg = some { fault := f, index := i } ↔
      StartCase cfg f i ∧ ∀ (g : StartFault) (j : Nat), StartCase cfg g j → ¬TestedBefore g j f i := by
  have hreal : ∀ {g j}, StartCase cfg g j → g ≠ .noFault := fun hcase hg => by rw [hg] at hcase; exact hcase
  obtain ⟨hfound, hnone⟩ := startChecks_findsFirst cfg
  refine ⟨fun h => ?_, fun ⟨hcase, hfirst⟩ => ?_⟩
  · obtain ⟨-, hcase, hfirst⟩ := hfound _ h
    exact ⟨hcase, fun g j => hfirst g j (Nat.zero_le _)⟩
  · rcases hcheck : startChecks cfg with _ | c
    · exact absurd hcase (hnone hcheck f i (Nat.zero_le _))
    · obtain ⟨-, hc, hfirst'⟩ := hfound c hcheck
      obtain ⟨hfault, hindex⟩ := testedBefore_total (hreal hcase) (hreal hc) (hfirst' f i (Nat.zero_le _) hcase) (hfirst _ _ hc)
      rw [← hfault, ← hindex]

/-- Every kind a binding requires is one of a used channel (Table 1-8). -/
theorem requiredKind_ne_unused (b : Binding) : requiredKind b ≠ .unused := by
  cases b <;> nofun

/-- No channel case holds where every binding is carried once, on a channel of its kind (R2). -/
theorem noChannelCase_iff (cfg : Configuration) :
    (∀ g i, startPass g = 1 → ¬StartCase cfg g i) ↔
      ∀ (n : Fin 12) (b : Binding), (cfg.channels[n.val]).binding = some b →
        (cfg.channels[n.val]).kind = requiredKind b ∧ ∀ m : Fin 12, m < n → (cfg.channels[m.val]).binding ≠ some b := by
  constructor
  · intro h n b hb
    have hused : (cfg.channels[n.val]).kind ≠ .unused := fun hk =>
      h .bindingUnused n rfl ⟨n, rfl, hk, by rw [hb]; nofun⟩
    refine ⟨?_, fun m hlow hm => h .bindingRepeated n rfl ⟨n, m, b, rfl, hlow, hb, hm⟩⟩
    by_contra hkind
    exact h .bindingKind n rfl ⟨n, b, rfl, hb, hused, hkind⟩
  · intro h g i hg hcase
    rcases startPass_channels hg with rfl | rfl | rfl
    · obtain ⟨n, m, b, -, hlow, hb, hm⟩ := hcase
      exact (h n b hb).2 m hlow hm
    · obtain ⟨n, b, -, hb, -, hkind⟩ := hcase
      exact hkind (h n b hb).1
    · obtain ⟨n, -, hunused, hbinding⟩ := hcase
      obtain ⟨b, hb⟩ := Option.ne_none_iff_exists'.mp hbinding
      exact requiredKind_ne_unused b ((h n b hb).1.symm.trans hunused)

/-- No loop case holds where every configured loop has its temperature, a valve of its own and a pin of its own (R92). -/
theorem noLoopCase_iff (cfg : Configuration) :
    (∀ g i, startPass g = 3 → ¬StartCase cfg g i) ↔
      ∀ (n : Fin 4) (cls : HeatClass), (cfg.loops[n.val]).cls = some cls →
        (cls ≠ .dry → ∃ m : Fin 12, (cfg.channels[m.val]).binding = some (.loopT n)) ∧
        (∀ m : Fin 4, m < n → (cfg.loops[m.val]).cls ≠ none → (cfg.loops[m.val]).valve ≠ (cfg.loops[n.val]).valve) ∧
        ∀ p : Fin 24, (cfg.loops[n.val]).backupPin = some p → (cfg.pins[p.val]).function = .backup n := by
  constructor
  · intro h n cls hcls
    have hn : (cfg.loops[n.val]).cls ≠ none := by rw [hcls]; nofun
    refine ⟨fun hdry => ?_, fun m hlow hm hsame => h .valveGenerator n rfl ⟨n, m, rfl, hlow, hn, hm, hsame⟩, fun p hp => ?_⟩
    · by_contra hbound
      exact h .loopTemperature n rfl ⟨n, cls, rfl, hcls, hdry, hbound⟩
    · by_contra hfunction
      exact h .backupPin n rfl ⟨n, p, rfl, hn, hp, hfunction⟩
  · intro h g i hg hcase
    rcases startPass_loops hg with rfl | rfl | rfl
    · obtain ⟨n, cls, -, hcls, hdry, hbound⟩ := hcase
      exact hbound ((h n cls hcls).1 hdry)
    · obtain ⟨n, m, -, hlow, hn, hm, hsame⟩ := hcase
      obtain ⟨cls, hcls⟩ := Option.ne_none_iff_exists'.mp hn
      exact (h n cls hcls).2.1 m hlow hm hsame
    · obtain ⟨n, p, -, hn, hp, hfunction⟩ := hcase
      obtain ⟨cls, hcls⟩ := Option.ne_none_iff_exists'.mp hn
      exact hfunction ((h n cls hcls).2.2 p hp)

/-- No pin case holds where no function allowed once appears on two pins (R145). -/
theorem noPinCase_iff (cfg : Configuration) :
    (∀ i, ¬StartCase cfg .pinFunction i) ↔
      ∀ m n : Fin 24, m < n → (cfg.pins[m.val]).function = (cfg.pins[n.val]).function →
        (cfg.pins[n.val]).function = .outHigh ∨ (cfg.pins[n.val]).function = .outLow ∨ (cfg.pins[n.val]).function = .input := by
  constructor
  · intro h m n hlow hsame
    by_contra hno
    simp only [not_or] at hno
    exact h n ⟨n, m, rfl, hlow, hsame, hno⟩
  · rintro h i ⟨n, m, -, hlow, hsame, hhigh, hout, hin⟩
    rcases h m n hlow hsame with e | e | e
    · exact hhigh e
    · exact hout e
    · exact hin e

/-- The source's bindings are all carried or none where its case does not hold (R90). -/
theorem noSourceCase_iff (cfg : Configuration) :
    (∀ i, ¬StartCase cfg .sourceBinding i) ↔
      (Carried cfg .sourceSupplyT ↔ Carried cfg .sourceReturnT) ∧ (Carried cfg .sourceReturnT ↔ Carried cfg .sourceFlow) := by
  constructor
  · intro h
    have := h 0
    simp only [StartCase, true_and] at this
    tauto
  · rintro ⟨hsupply, hreturn⟩ i ⟨-, hsome, hnotAll⟩
    tauto

/-- Settles O17: the checks find the case tested first, pass by pass, and no case holds where Table 10-2's conditions are unbroken. -/
theorem startChecksPassExactly : Obligations.StartChecksPassExactly := by
  refine ⟨fun b => by cases b <;> rfl, fun cfg => ⟨startChecks_eq_some cfg, ?_⟩⟩
  rw [startChecks_eq_none]
  refine Iff.trans ?_ (and_congr Iff.rfl (and_congr (noChannelCase_iff cfg) (and_congr (noSourceCase_iff cfg)
    (and_congr (noLoopCase_iff cfg) (and_congr (noPinCase_iff cfg) Iff.rfl)))))
  constructor
  · intro h
    exact ⟨fun haddress => h .address 0 ⟨rfl, haddress⟩, fun g i _ => h g i, h .sourceBinding, fun g i _ => h g i, h .pinFunction,
      lt_of_not_ge fun hice => h .iceMargin 0 ⟨rfl, hice⟩, lt_of_not_ge fun hfog => h .fogThreshold 0 ⟨rfl, hfog⟩⟩
  · rintro ⟨haddress, hchannels, hsource, hloops, hpins, hice, hfog⟩ f i hcase
    cases f
    case noFault => exact hcase
    case address => exact haddress hcase.2
    case bindingRepeated => exact hchannels _ i rfl hcase
    case bindingKind => exact hchannels _ i rfl hcase
    case bindingUnused => exact hchannels _ i rfl hcase
    case sourceBinding => exact hsource i hcase
    case loopTemperature => exact hloops _ i rfl hcase
    case valveGenerator => exact hloops _ i rfl hcase
    case backupPin => exact hloops _ i rfl hcase
    case pinFunction => exact hpins i hcase
    case iceMargin => exact absurd hice (not_lt_of_ge hcase.2)
    case fogThreshold => exact absurd hfog (not_lt_of_ge hcase.2)

end Sys2Proof.Machine

/-!
PROOFS. Bits and fields (R171), and the transactions that capture or discard (O23, O24, O28): what a capture shifts out and what stands.
-/
namespace Sys2Proof.Machine

/-! ### Bits and numbers -/

@[simp] theorem bitsOfNat_length (n v : Nat) : (bitsOfNat n v).length = n := by
  induction n with
  | zero => rfl
  | succ n ih => rw [bitsOfNat, List.length_cons, ih]

/-- The bits of a number spell it again, but for what its width cuts off (R171). -/
theorem natOfBits_bitsOfNat (n v : Nat) : natOfBits (bitsOfNat n v) = v % 2 ^ n := by
  induction n with
  | zero => rw [Nat.pow_zero, Nat.mod_one]; rfl
  | succ n ih =>
    have hbit : (v / 2 ^ n % 2 == 1).toNat = v / 2 ^ n % 2 := by
      rcases Nat.mod_two_eq_zero_or_one (v / 2 ^ n) with h | h <;> rw [h] <;> rfl
    have hcons : bitsOfNat (n + 1) v = [v / 2 ^ n % 2 == 1] ++ bitsOfNat n v := rfl
    have hone : natOfBits [v / 2 ^ n % 2 == 1] = v / 2 ^ n % 2 := (Nat.zero_add _).trans hbit
    rw [hcons, natOfBits_append, hone, ih, bitsOfNat_length, Nat.mod_pow_succ, Nat.mul_comm, Nat.add_comm]

/-- A run of bits is what the number it spells is sent as (R171). -/
theorem bitsOfNat_natOfBits (l : Bits) : bitsOfNat l.length (natOfBits l) = l := by
  induction l with
  | nil => rfl
  | cons b rest ih =>
    have hlow := natOfBits_lt rest
    have hval : natOfBits (b :: rest) = b.toNat * 2 ^ rest.length + natOfBits rest := by
      have hone : natOfBits [b] = b.toNat := Nat.zero_add _
      rw [← hone]
      exact natOfBits_append [b] rest
    have hdiv : natOfBits (b :: rest) / 2 ^ rest.length = b.toNat := by
      rw [hval, Nat.mul_comm, Nat.mul_add_div (Nat.two_pow_pos _), Nat.div_eq_of_lt hlow, Nat.add_zero]
    have hmod : ∀ n v k, bitsOfNat n (k * 2 ^ n + v) = bitsOfNat n v := by
      intro n
      induction n with
      | zero => exact fun _ _ => rfl
      | succ n ihn =>
        intro v k
        have hpow : k * 2 ^ (n + 1) = k * 2 * 2 ^ n := by ring
        have hbit : (k * 2 * 2 ^ n + v) / 2 ^ n % 2 = v / 2 ^ n % 2 := by
          rw [Nat.mul_comm (k * 2), Nat.mul_add_div (Nat.two_pow_pos _)]
          omega
        rw [bitsOfNat, bitsOfNat, hpow, hbit, ihn]
    rw [List.length_cons, bitsOfNat, hdiv, hval, hmod, ih]
    cases b <;> rfl

/-- A record's fields are sent one behind the other (R171). -/
theorem packFields_append (a b : List (Nat × Nat)) : packFields (a ++ b) = packFields a ++ packFields b := by
  induction a with
  | nil => rfl
  | cons f rest ih => rw [List.cons_append, packFields, packFields, ih, List.append_assoc]

theorem packFields_map {α : Type} (w : Nat) (f : α → Nat) (l : List α) :
    packFields (l.map fun i => (w, f i)) = (l.map fun i => bitsOfNat w (f i)).flatten := by
  induction l with
  | nil => rfl
  | cons a rest ih => rw [List.map_cons, packFields, ih, List.map_cons, List.flatten_cons]

/-- The flags of a byte or word, highest index first, spell the sum of their places (R171). -/
theorem natOfBits_flags (n : Nat) (f : Fin n → Bool) :
    natOfBits ((List.finRange n).reverse.map f) = ((List.finRange n).map fun i => (f i).toNat * 2 ^ i.val).sum := by
  induction n with
  | zero => rfl
  | succ n ih =>
    have hone : natOfBits [f (Fin.last n)] = (f (Fin.last n)).toNat := Nat.zero_add _
    have hinner := ih fun i => f i.castSucc
    rw [List.finRange_succ_last, List.reverse_append, List.map_append, natOfBits_append, List.map_append, List.sum_append]
    simp only [List.reverse_singleton, List.map_singleton, List.sum_singleton, Fin.val_last, hone, List.length_map, List.length_reverse,
      List.length_finRange, ← List.map_reverse, List.map_map] at hinner ⊢
    rw [Nat.add_comm, show f ∘ Fin.castSucc = fun i => f i.castSucc from rfl, hinner]
    rfl

theorem bitsOfNat_flags (n : Nat) (f : Fin n → Bool) :
    bitsOfNat n ((List.finRange n).map fun i => (f i).toNat * 2 ^ i.val).sum = (List.finRange n).reverse.map f := by
  rw [← natOfBits_flags]
  have h := bitsOfNat_natOfBits ((List.finRange n).reverse.map f)
  rwa [List.length_map, List.length_reverse, List.length_finRange] at h

/-! ### A transaction on a window -/

/-- The port when a transaction on a window has shifted its bits and PSEL has risen (R162, R164, R165). -/
def State.portAfter (s : State) (c : Code) (w : Window) (pdi : Bits) : SetupPort :=
  { s.port with
    state := .portIdle
    code := natOfBits (bitsOfNat 8 c.toNat)
    count := pdi.length
    stage := (stageOf s w ++ pdi).drop pdi.length
    snapshot := some (contentsOf s w)
    pdo := List.replicate 8 (some false) ++ ((stageOf s w ++ pdi).take pdi.length).map some
    capturedSet := if storesSet w then some (captureSet s) else s.port.capturedSet }

theorem portAfter_shifted (s : State) (c : Code) (w : Window) (pdi : Bits) : Shifted (s.portAfter c w pdi) (stageOf s w) pdi :=
  ⟨rfl, rfl, rfl, rfl⟩

/-- A transaction on a window is its end on the state whose port has shifted (R165, R166). -/
theorem transactWindow_portAfter (s : State) (c : Code) (w : Window) (pdi : Bits) :
    s.transactWindow c w pdi =
      ((s.setPort (s.portAfter c w pdi)).setFreeCount (s.freeCount + (takesReading w).toNat)).endTransaction w pdi :=
  congrArg (fun u => State.endTransaction u w pdi) (shifted_window s c w pdi)

/-- A transaction on a read-only window captures and leaves the rest (R164, R166). -/
theorem transact_readOnly {c : Code} {w : Window} (hc : windowOfCode c = some w) (hw : w.kind = .readOnly) (s : State) (pdi : Bits) :
    s.transact c pdi = (s.setPort { s.portAfter c w pdi with lastResult := .captured }).setFreeCount
      (s.freeCount + (takesReading w).toNat) := by
  rw [transact_of_window hc, transactWindow_portAfter, endTransaction_readOnly hw]
  rfl

/-- A transaction on a window that is not read-only takes no reading (R164). -/
theorem transact_writable {c : Code} {w : Window} (hc : windowOfCode c = some w) (hw : w.kind ≠ .readOnly) (s : State) (pdi : Bits) :
    s.transact c pdi = (s.setPort (s.portAfter c w pdi)).endTransaction w pdi := by
  rw [transact_of_window hc, transactWindow_portAfter, takesReading_of_not_readOnly hw]
  rfl

/-- A transaction of wrong length on a window that is neither read-only nor SCENE discards (R166). -/
theorem transact_wrongLength {c : Code} {w : Window} (hc : windowOfCode c = some w) (hw : w.kind ≠ .readOnly) (hs : w ≠ .scene)
    {pdi : Bits} (hl : exactLength w pdi = false) (s : State) :
    s.transact c pdi = s.setPort { s.portAfter c w pdi with lastResult := .discardedLength } := by
  rw [transact_writable hc hw, endTransaction_wrongLength hw hs hl]
  rfl

/-- A window other than SNAP 6 leaves the captured set (R164). -/
theorem portAfter_capturedSet {w : Window} (hw : w ≠ .snap 6) (s : State) (c : Code) (pdi : Bits) :
    (s.portAfter c w pdi).capturedSet = s.port.capturedSet := by
  simp only [State.portAfter, storesSet, decide_eq_false hw]
  rfl

/-! ### The causes snapshot -/

/-- The layout of SNAP 6 (Table 12-10). -/
theorem causesBits_eq (s : State) : causesBits s = [attention s, false, false, false] ++
    ((List.finRange 12).reverse.map fun i => (s.node.causes[i.val]).flag) ++
    ((List.finRange 12).map fun i => bitsOfNat 8 (s.node.causes[i.val]).count).flatten := by
  have hflags : bitsOfNat 12 (causeFlags s.node.causes) = (List.finRange 12).reverse.map fun i => (s.node.causes[i.val]).flag :=
    bitsOfNat_flags 12 _
  have hattention : bitsOfNat 1 (attention s).toNat = [attention s] := by
    cases attention s <;> rfl
  rw [causesBits, packFields_append, packFields_map]
  simp only [packFields, hflags, hattention, List.append_nil]
  rfl

/-- Settles O23: the capture stores the set, and SNAP 6 is a read-only window. -/
theorem causesSnapshotStoresTheSet : Obligations.CausesSnapshotStoresTheSet := by
  intro s pdi hready
  refine ⟨{ s.portAfter (codeOf 12 6) (.snap 6) pdi with lastResult := .captured }, captureSet s, ?_, rfl, fun i => ?_, ?_, rfl, rfl, rfl⟩
  · rw [show exec (.causesSnapshot pdi) s = takenIf (portReady s) s (s.transact (codeOf 12 6) pdi) from rfl, takenIf_of_true hready,
      transact_readOnly rfl rfl]
    rfl
  · simp only [captureSet, Vector.getElem_ofFn, Fin.getElem_fin]
  · have hshifted := portAfter_shifted s (codeOf 12 6) (.snap 6) pdi
    rw [show stageOf s (.snap 6) = resultBits s.port.lastResult ++ causesBits s from rfl, causesBits_eq, ← List.append_assoc,
      ← List.append_assoc] at hshifted
    exact hshifted

/-! ### Unknown codes and wrong lengths -/

/-- Fewer than 8 data bits leave the scene pointer (R165). -/
theorem pointerAfter_of_short {pdi : Bits} (h : pdi.length < 16) (p : Fin 32) : pointerAfter p pdi = p := by
  refine if_neg ?_
  rw [dataBits, List.length_drop]
  omega

/-- A number above 31 leaves the scene pointer (R165). -/
theorem pointerAfter_of_other {pdi : Bits} (h : 31 < natOfBits ((pdi.drop 8).take 8)) (p : Fin 32) : pointerAfter p pdi = p := by
  unfold pointerAfter indexOfField dataBits
  rw [dif_neg (by omega), Option.getD_none, ite_self]

/-- A number of 0 to 31 in at least 8 data bits is taken as the scene pointer (R165). -/
theorem pointerAfter_of_number {pdi : Bits} (hl : 16 ≤ pdi.length) (h : natOfBits ((pdi.drop 8).take 8) ≤ 31) (p : Fin 32) :
    (pointerAfter p pdi).val = natOfBits ((pdi.drop 8).take 8) := by
  unfold pointerAfter indexOfField dataBits
  rw [if_pos (by rw [List.length_drop]; omega), dif_pos (by omega), Option.getD_some]

/-- A transaction of wrong length on SCENE sets the pointer alone (R165, R166). -/
theorem transact_scene_wrongLength {c : Code} (hc : windowOfCode c = some .scene) {pdi : Bits} (hl : exactLength .scene pdi = false)
    (s : State) : s.transact c pdi = s.setPort { s.portAfter c .scene pdi with
      lastResult := .discardedLength, scenePointer := pointerAfter s.port.scenePointer pdi } := by
  rw [transact_writable hc nofun, endTransaction_scene, if_neg (by rw [hl]; decide)]
  rfl

/-- A transaction of wrong length is taken as one (R166). -/
theorem exec_discardedLength {s : State} (hready : portReady s = true) {bits : Bits} (hl : 8 ≤ bits.length) {w : Window}
    (hw : windowOfCode (codeOfBits bits) = some w) (hkind : w.kind ≠ .readOnly) (hwrong : exactLength w (bits.drop 8) = false) :
    exec (.discardedLength bits) s = .next (s.transact (codeOfBits bits) (bits.drop 8)) := by
  have hexec : exec (.discardedLength bits) s =
      takenIf (portReady s && isWrongLength (codeOfBits bits) (bits.drop 8)) s (s.transact (codeOfBits bits) (bits.drop 8)) :=
    if_neg (by omega)
  rw [hexec, takenIf_of_true]
  simp [hready, isWrongLength, hw, hkind, hwrong]

/-- Settles O28: each of these transactions ends in a port that keeps all but its result, and on SCENE its pointer. -/
theorem unappliedTransactionsChangeOnlyThePort : Obligations.UnappliedTransactionsChangeOnlyThePort := by
  intro s hready
  refine ⟨fun code pdi hcode => ?_, fun bits hl => ?_, fun bits w hl hw hkind hscene hlength => ?_, fun bits hl hcode hlength => ?_⟩
  · refine ⟨s.passThrough code pdi, ?_, ?_, ?_, ?_⟩
    · rw [show exec (.unknownCode code pdi) s =
        takenIf (portReady s && (windowOfCode code).isNone) s (s.transact code pdi) from rfl, takenIf_of_true, transact_of_none hcode]
      simp [hready, hcode]
    all_goals rw [passThrough_eq]
    · exact ⟨_, rfl, rfl, rfl, rfl, rfl, rfl⟩
    · exact ⟨rfl, rfl, rfl, rfl⟩
    · rfl
  · have hexec : exec (.discardedLength bits) s = takenIf (portReady s) s (s.endInCode bits) := if_pos hl
    refine ⟨s.endInCode bits, ?_, ?_, ?_⟩
    · rw [hexec, takenIf_of_true hready]
    all_goals rw [endInCode_eq]
    · exact ⟨_, rfl, rfl, rfl, rfl, rfl, rfl⟩
    · exact ⟨rfl, rfl, rfl, rfl⟩
  · have hwrong : exactLength w (bits.drop 8) = false := by
      rw [exactLength, List.length_drop]
      exact decide_eq_false (by omega)
    have hset := portAfter_capturedSet (w := w) (fun h => hkind (by rw [h]; rfl)) s (codeOfBits bits) (bits.drop 8)
    refine ⟨_, exec_discardedLength hready hl hw hkind hwrong, ?_, ?_⟩
    all_goals rw [transact_wrongLength hw hkind hscene hwrong]
    · exact ⟨_, rfl, rfl, rfl, hset, rfl, rfl⟩
    · exact List.length_drop
  · have hw : windowOfCode (codeOfBits bits) = some .scene := by rw [hcode]; rfl
    have hwrong : exactLength .scene (bits.drop 8) = false := by
      rw [exactLength, List.length_drop, show Window.length .scene = 160 from rfl]
      exact decide_eq_false (by omega)
    have hset := portAfter_capturedSet (w := .scene) nofun s (codeOfBits bits) (bits.drop 8)
    refine ⟨{ s.portAfter (codeOfBits bits) .scene (bits.drop 8) with
        lastResult := .discardedLength, scenePointer := pointerAfter s.port.scenePointer (bits.drop 8) }, ?_, rfl,
      hset, rfl, rfl, fun hlong hnumber => ?_, fun h => ?_⟩
    · rw [exec_discardedLength hready hl hw nofun hwrong, transact_scene_wrongLength hw hwrong]
    · have hpointer := pointerAfter_of_number (pdi := bits.drop 8) (by rw [List.length_drop]; omega)
        (by rw [List.drop_drop]; exact hnumber) s.port.scenePointer
      rwa [List.drop_drop] at hpointer
    · rcases h with hshort | hother
      · exact pointerAfter_of_short (by rw [List.length_drop]; omega) _
      · exact pointerAfter_of_other (by rw [List.drop_drop]; exact hother) _

/-! ### Read-only windows -/

/-- Code 0 is IDENT (Table 11-1). -/
theorem windowOfCode_ident {code : Code} (h : code.toNat = 0) : windowOfCode code = some .ident := by
  rw [windowOfCode, h]
  rfl

/-- Codes 192 to 198 are SNAP 0 to SNAP 6 (Table 11-1). -/
theorem windowOfCode_snap {code : Code} (n : Fin 7) (h : code.toNat = 192 + n.val) : windowOfCode code = some (.snap n) := by
  have hcls : (192 + n.val) / 16 = 12 := by omega
  have hindex : (192 + n.val) % 16 = n.val := by omega
  rw [windowOfCode, h, hcls, hindex]
  exact dif_pos n.isLt

/-- Codes 208 to 239 are the positions of PEER (Table 11-1, R34). -/
theorem windowOfCode_peer {code : Code} (k : Fin 32) (h : code.toNat = 208 + k.val) : windowOfCode code = some (.peer k) := by
  rw [windowOfCode, h]
  by_cases hk : k.val < 16
  · have hcls : (208 + k.val) / 16 = 13 := by omega
    have hindex : (208 + k.val) % 16 = k.val := by omega
    rw [hcls, hindex]
    exact dif_pos k.isLt
  · have hcls : (208 + k.val) / 16 = 14 := by omega
    have hindex : 16 + (208 + k.val) % 16 = k.val := by omega
    rw [hcls]
    show indexed 32 .peer (16 + (208 + k.val) % 16) = _
    rw [hindex]
    exact dif_pos k.isLt

/-- The window a code of IDENT, SNAP 0 to 5 or PEER names. -/
theorem windowOfCode_readOnly {code : Code}
    (h : code.toNat = 0 ∨ (192 ≤ code.toNat ∧ code.toNat ≤ 197) ∨ (208 ≤ code.toNat ∧ code.toNat ≤ 239)) :
    ∃ w, windowOfCode code = some w ∧ w.kind = .readOnly ∧ w ≠ .snap 6 ∧ (w = .snap 4 ↔ code.toNat = 196) ∧
      (takesReading w).toNat = if code.toNat = 192 ∨ code.toNat = 196 then 1 else 0 := by
  rcases h with h | ⟨hlow, hhigh⟩ | ⟨hlow, hhigh⟩
  · refine ⟨.ident, windowOfCode_ident h, rfl, nofun, ⟨nofun, fun h' => by omega⟩, ?_⟩
    rw [if_neg (by omega)]
    rfl
  · obtain ⟨n, hn⟩ : ∃ n : Fin 6, code.toNat = 192 + n.val := ⟨⟨code.toNat - 192, by omega⟩, by simp only; omega⟩
    refine ⟨.snap (n.castLE (by decide)), windowOfCode_snap _ hn, rfl, ?_, ?_, ?_⟩
    · intro h
      have hsix : n.val = 6 := congrArg Fin.val (Window.snap.inj h)
      omega
    all_goals
      rw [hn]
      clear hn
      revert n
      decide
  · refine ⟨.peer ⟨code.toNat - 208, by omega⟩, windowOfCode_peer _ (by simp only; omega), rfl, nofun, ⟨nofun, fun h' => by omega⟩, ?_⟩
    rw [if_neg (by omega)]
    rfl

/-- A SNAP or PEER window shows as many bits as it has, and IDENT its 32 (Table 11-1). -/
theorem shownBits_length_of_readOnly {w : Window} (hw : w.kind = .readOnly) (h6 : w ≠ .snap 6) (s : State) :
    (shownBits w.length (contentsOf s w)).length = w.length := by
  cases w with
  | ident => simp [contentsOf, shownBits, identBits, packFields, Window.length]
  | peer k => simp [contentsOf, shownBits]
  | snap n =>
    fin_cases n
    on_goal 7 => exact absurd rfl h6
    all_goals simp [contentsOf, snapOf, shownBits, -List.map_map]
  | _ => cases hw

/-- What the model shows in UNSET is what the power-on configuration gives (log entry 32). -/
theorem applied_of_unset {s : State} (h : s.node.state = .unset) : s.applied = .powerOn := if_pos h

theorem applied_of_set {s : State} (h : s.node.state ≠ .unset) : s.applied = s.cfg := if_neg h

theorem contentsOf_snap_heat (s : State) : contentsOf s (.snap 0) = if s.node.state = .unset then
      .heat s.freeCount false (Vector.replicate 4 none) s.heat
    else .heat s.freeCount (bound s.cfg .sourceSupplyT && bound s.cfg .sourceReturnT && bound s.cfg .sourceFlow)
      (Vector.ofFn fun i : Fin 4 => (s.cfg.loops[i.val]).cls) s.heat := by
  show Snapshot.heat s.freeCount (hasSource s.applied) (Vector.ofFn fun i : Fin 4 => (s.applied.loops[i]).cls) s.heat = _
  split
  · rename_i h
    rw [applied_of_unset h]
    have hsource : hasSource .powerOn = false := by decide
    have hloops : (Vector.ofFn fun i : Fin 4 => (Configuration.powerOn.loops[i]).cls) = Vector.replicate 4 none := by decide
    rw [hsource, hloops]
  · rename_i h
    rw [applied_of_set h]
    rfl

theorem contentsOf_snap_fog (s : State) : contentsOf s (.snap 1) = if s.node.state = .unset then .fog false false s.fog
    else .fog (bound s.cfg .bowlAirT && bound s.cfg .bowlAirRh && bound s.cfg .iceLayerAir) (bound s.cfg .fogBeam) s.fog := by
  show Snapshot.fog (hasMarginPath s.applied) (hasBeamPath s.applied) s.fog = _
  split
  · rename_i h
    rw [applied_of_unset h, show hasMarginPath .powerOn = false by decide, show hasBeamPath .powerOn = false by decide]
  · rename_i h
    rw [applied_of_set h]
    rfl

theorem contentsOf_snap_ice (s : State) : contentsOf s (.snap 2) = if s.node.state = .unset then .ice false s.ice
    else .ice (bound s.cfg .iceSurface) s.ice := by
  show Snapshot.ice (hasIce s.applied) s.ice = _
  split
  · rename_i h
    rw [applied_of_unset h, show hasIce .powerOn = false by decide]
  · rename_i h
    rw [applied_of_set h]
    rfl

/-- What SNAP 4 shows (R143, R151). -/
theorem contentsOf_snap_pins (s : State) : ∃ (raw : Vector Bool 24) (gens : Generators) (gated : Vector Bool 8)
    (cues : Vector CueInput 2), contentsOf s (.snap 4) = .pins raw gens gated cues ∧
      (∀ n : Fin 2, cues[n.val] = { s.pins.cueInputs[n.val] with lastLevel := none }) ∧
      (∀ n : Fin 24, raw[n.val] = rawLevel s n) ∧
      (∀ n : Fin 8, gens.dimmers[n.val] =
          { s.gens.dimmers[n.val] with gen := { (s.gens.dimmers[n.val]).gen with part := 0 } } ∧
        (gated[n.val] = true ↔ (s.gens.dimmers[n.val]).gen.output = true ∧
          ¬((s.gens.dimmers[n.val]).strobe.active = true ∧ (s.gens.dimmers[n.val]).strobe.phase = .offTime))) ∧
      ∀ n : Fin 4, gens.valves[n.val] = { s.gens.valves[n.val] with part := 0 } := by
  refine ⟨_, _, _, _, rfl, fun n => ?_, fun n => ?_, fun n => ⟨?_, ?_⟩, fun n => ?_⟩
  · rw [Vector.getElem_map]
    rfl
  · rw [Vector.getElem_ofFn]
  · rw [Generators.shown, Vector.getElem_map]
    rfl
  · rw [Vector.getElem_ofFn]
    simp [Dimmer.gated, imp_iff_not_or]
  · rw [Generators.shown, Vector.getElem_map]
    rfl

/-- A PEER window shows the entry at its position, or a blank one (R34). -/
theorem contentsOf_peer_of_some {s : State} {k : Fin 32} {e : PeerEntry} (hk : k.val ≠ 31) (h : s.peers[k.val]? = some e) :
    contentsOf s (.peer k) = .peer e := by
  rw [contentsOf, peerAt, if_neg fun h' => hk (by rw [h']; rfl), List.getD_eq_getElem?_getD, h]
  rfl

theorem contentsOf_peer_of_none {s : State} {k : Fin 32} (h : k.val = 31 ∨ s.peers.length ≤ k.val) :
    contentsOf s (.peer k) = .peer (.blank 0) := by
  rw [contentsOf, peerAt]
  split
  · rfl
  · rename_i hk
    have hlength : s.peers.length ≤ k.val := h.resolve_left fun h' => hk (Fin.ext h')
    rw [List.getD_eq_getElem?_getD, List.getElem?_eq_none hlength, Option.getD_none]

/-- Settles O24: a read-only window's transaction is its capture, and each window's contents are those its rule names. -/
theorem readOnlyTransactionsOnlyCapture : Obligations.ReadOnlyTransactionsOnlyCapture := by
  intro s code pdi board hready hcode
  obtain ⟨w, hw, hkind, h6, h4, hreading⟩ := windowOfCode_readOnly hcode
  obtain ⟨b, hb⟩ : ∃ b, b = if code.toNat = 196 then board else s.pins.board := ⟨_, rfl⟩
  obtain ⟨u, hu⟩ : ∃ u, u = s.setPins { s.pins with board := b } := ⟨_, rfl⟩
  have hsee : s.seePins code board = u := by
    unfold State.seePins
    rw [hw, hu, hb]
    by_cases hpins : code.toNat = 196
    · rw [if_pos hpins, if_pos (congrArg some (h4.mpr hpins))]
      rfl
    · rw [if_neg hpins, if_neg fun h => hpins (h4.mp (Option.some.inj h))]
      rfl
  have hshows : ∀ {w'}, windowOfCode code = some w' →
      some (contentsOf u w) = some (contentsOf u w') := fun h' => by rw [Option.some.inj (hw.symm.trans h')]
  have hsame : code.toNat ≠ 196 → u = s := fun h => by
    rw [hu, hb, if_neg h]
    rfl
  refine ⟨{ u.portAfter code w pdi with lastResult := .captured }, b, stageOf u w, ?_, rfl, ?_, by rw [hu]; rfl, by rw [hu]; rfl,
    portAfter_shifted u code w pdi, ?_, fun w' hw' => ?_, hb, fun h => ?_, fun h => ?_, fun h => ?_, fun h => ?_, fun h => ?_,
    fun h => ?_, fun h => ?_, fun k h => ⟨fun e hk he => ?_, fun hk => ?_⟩⟩
  · rw [show exec (.readOnlyWindowTransaction code pdi board) s =
      takenIf (portReady s && isReadOnlyCode code) s ((s.seePins code board).transact code pdi) from rfl, takenIf_of_true, hsee,
      transact_readOnly hw hkind, hreading, hu]
    · rfl
    · simp [hready, isReadOnlyCode, hw, hkind, h6]
  · have hset := portAfter_capturedSet h6 u code pdi
    rwa [hu] at hset ⊢
  · rw [hu]
    exact List.take_left' (bitsOfNat_length _ _)
  · cases hw.symm.trans hw'
    rw [stageOf, List.length_append, shownBits_length_of_readOnly hkind h6, resultBits, bitsOfNat_length]
  · obtain rfl : w = .ident := Option.some.inj (hw.symm.trans (windowOfCode_ident h))
    rw [hsame (by omega)]
    have hdrop : (stageOf s .ident).drop 8 = identBits s := List.drop_left' (bitsOfNat_length _ _)
    rw [hdrop]
    simp [identBits, packFields]
  · refine (hshows (windowOfCode_snap 0 h)).trans ?_
    rw [hsame (by omega), contentsOf_snap_heat]
  · refine (hshows (windowOfCode_snap 1 h)).trans ?_
    rw [hsame (by omega), contentsOf_snap_fog]
  · refine (hshows (windowOfCode_snap 2 h)).trans ?_
    rw [hsame (by omega), contentsOf_snap_ice]
  · refine (hshows (windowOfCode_snap 3 h)).trans ?_
    rw [hsame (by omega)]
    rfl
  · obtain ⟨raw, gens, gated, cues, hcontents, hcues, hraw, hdimmers, hvalves⟩ := contentsOf_snap_pins u
    rw [if_pos h] at hb
    rw [hu, hb] at hcues hraw hdimmers hvalves
    exact ⟨raw, gens, gated, cues, (hshows (windowOfCode_snap 4 h)).trans (congrArg some hcontents), hcues, hraw, hdimmers, hvalves⟩
  · refine ⟨viewOf, fun x => ⟨rfl, rfl⟩, (hshows (windowOfCode_snap 5 h)).trans ?_⟩
    rw [hsame (by omega)]
    rfl
  · have hlt : k < 32 := by omega
    refine (hshows (windowOfCode_peer ⟨k, hlt⟩ h)).trans (congrArg some ?_)
    rw [hsame (by omega)]
    exact contentsOf_peer_of_some (k := ⟨k, hlt⟩) hk he
  · have hlt : k < 32 := by omega
    refine (hshows (windowOfCode_peer ⟨k, hlt⟩ h)).trans (congrArg some ?_)
    rw [hsame (by omega)]
    exact contentsOf_peer_of_none (k := ⟨k, hlt⟩) hk

end Sys2Proof.Machine

/-!
PROOFS. Writes of configuration windows (O25): each window's write is its fields as sent, refused, clamped or applied (R167).
-/
namespace Sys2Proof.Machine

/-! ### Exact-length transactions -/

/-- A CONFIGURATION_WRITE is its window's transaction (R167). -/
theorem exec_configurationWrite {s : State} (hready : portReady s = true) {code : Code} {w : Window} (hw : windowOfCode code = some w)
    (hkind : w.kind = .configuration) {pdi : Bits} (hl : pdi.length = 8 + w.length) :
    exec (.configurationWrite code pdi) s = .next (s.transact code pdi) := by
  rw [show exec (.configurationWrite code pdi) s = takenIf (portReady s && isExactWrite code pdi) s (s.transact code pdi) from rfl,
    takenIf_of_true]
  simp [hready, isExactWrite, hw, hkind, exactLength, hl]

/-- The exact-length transaction on a window other than SCENE is its write (R166, R167). -/
theorem transact_write {code : Code} {w : Window} (hw : windowOfCode code = some w) (hkind : w.kind = .configuration)
    (hscene : w ≠ .scene) {pdi : Bits} (hl : pdi.length = 8 + w.length) (s : State) :
    s.transact code pdi = (s.setPort (s.portAfter code w pdi)).applyWrite w (natOfBits (pdi.drop 8)) := by
  rw [transact_writable hw (by rw [hkind]; decide), endTransaction_write hkind hscene (decide_eq_true hl)]
  rfl

/-- A window named by SCENE's code is SCENE: its class has one window (Table 11-1). -/
theorem code_of_scene {code : Code} (h : windowOfCode code = some .scene) : code = codeOf 8 0 := by
  revert h
  revert code
  decide +kernel

/-! ### What a write judges -/

/-- A write's outcome by its fields as sent: none where one is not listed, and otherwise the record within its ranges, with whether
that changed a field (R167, steps 2 and 3). -/
def WrittenAs {α : Type} (r : Written) (sent : Option α) (limited : α → α) (put : α → Configuration) : Prop :=
  (sent = none → r = none) ∧
    ∀ x, sent = some x → ∃ clamped, r = some (put (limited x), clamped) ∧ (clamped = true ↔ limited x ≠ x)

/-- A write's outcome gives what the transaction does in UNSET (R167). -/
theorem WrittenAs.judged {α : Type} {s : State} {code : Code} {w : Window} {pdi : Bits} {sent : Option α} {limited : α → α}
    {put : α → Configuration} (h : WrittenAs (writeWindow w (natOfBits (pdi.drop 8)) s.cfg) sent limited put)
    (hset : w ≠ .snap 6) (hunset : s.node.state = .unset) :
    RecordJudged s ((s.setPort (s.portAfter code w pdi)).applyWrite w (natOfBits (pdi.drop 8))) sent limited put := by
  obtain ⟨hrefused, hwritten⟩ := h
  have hcaptured := portAfter_capturedSet hset s code pdi
  refine ⟨fun hsent => ?_, fun x hsent => ?_⟩
  · rw [applyWrite_of_none (s := s.setPort (s.portAfter code w pdi)) hunset (hrefused hsent)]
    exact ⟨_, rfl, rfl, rfl, hcaptured, rfl, rfl⟩
  · obtain ⟨clamped, hr, hclamped⟩ := hwritten x hsent
    rw [applyWrite_of_some (s := s.setPort (s.portAfter code w pdi)) hunset hr]
    refine ⟨fun hsame => ?_, fun hdiffers => ?_⟩
    · have hno : clamped = false := by
        rw [← Bool.not_eq_true, hclamped]
        exact fun h => h hsame
      rw [hno, hsame]
      exact ⟨_, rfl, rfl, rfl, hcaptured, rfl, rfl⟩
    · rw [hclamped.mpr hdiffers]
      exact ⟨_, rfl, rfl, rfl, hcaptured, rfl, rfl⟩

/-! ### Fields as sent -/

/-- A field read from the data is the field sent at its place (R171). -/
theorem field_eq_sent {pdi : Bits} {length : Nat} (hl : pdi.length = 8 + length) (hi lo : Nat) (h : lo ≤ hi ∧ hi < length) :
    field (natOfBits (pdi.drop 8)) hi lo = sentField pdi (length - 1 - hi) (hi + 1 - lo) := by
  obtain ⟨hlo, hhi⟩ := h
  have hsent := field_sent pdi (length - 1 - hi) (hi + 1 - lo) lo (by omega) (by omega)
  rwa [show hi + 1 - lo + lo - 1 = hi by omega] at hsent

theorem flagBit_eq_sent {pdi : Bits} {length : Nat} (hl : pdi.length = 8 + length) (i : Nat) (h : i < length) :
    flagBit (natOfBits (pdi.drop 8)) i = sentFlag pdi (length - 1 - i) := by
  have hfield := field_eq_sent hl i i ⟨Nat.le_refl i, h⟩
  rw [field, show i + 1 - i = 1 by omega, Nat.pow_one] at hfield
  rw [flagBit, hfield]
  rfl

theorem clampNat_eq (lo hi v : Nat) : clampNat lo hi v = (max lo (min hi v), max lo (min hi v) != v) := rfl

theorem clampSigned_sent (lo hi : Int) (pdi : Bits) (start : Nat) : clampSigned lo hi (sentField pdi start 16) =
    (max lo (min hi (sentSigned pdi start)), max lo (min hi (sentSigned pdi start)) != sentSigned pdi start) := rfl

theorem clampPlain_eq (lo hi : Int) (v : Nat) :
    clampPlain lo hi v = (max lo (min hi (v : Int)), max lo (min hi (v : Int)) != (v : Int)) := rfl

/-- An unsigned field is limited from above only where its range begins at 0. -/
theorem max_zero_min_cast {hi : Int} (h : 0 ≤ hi) (v : Nat) : max 0 (min hi (v : Int)) = min hi (v : Int) :=
  max_eq_right (le_min h (Int.natCast_nonneg v))

/-! ### Codes as lists -/

theorem phaseOfCode_eq (v : Nat) : phaseOfCode v = phaseList[v]? := by
  match v with
  | 0 | 1 | 2 | 3 | 4 => rfl
  | n + 5 => rfl

theorem channelKindOfCode_eq (v : Nat) : channelKindOfCode v = kindList[v]? := by
  match v with
  | 0 | 1 | 2 | 3 | 4 => rfl
  | n + 5 => rfl

theorem bindingOfCode_eq (v : Nat) : bindingOfCode v = if v = 15 then some none else (bindingList[v]?).map some := by
  match v with
  | 0 | 1 | 2 | 3 | 4 | 5 | 6 | 7 | 8 | 9 | 10 | 11 | 12 | 13 | 14 | 15 => rfl
  | n + 16 => rfl

theorem loopClassOfCode_eq (v : Nat) : loopClassOfCode v = classList[v]? := by
  match v with
  | 0 | 1 | 2 | 3 | 4 => rfl
  | n + 5 => rfl

theorem indexOfField_eq (n v : Nat) : indexOfField n v = (List.finRange n)[v]? := by
  unfold indexOfField
  split
  · rename_i h
    rw [List.getElem?_eq_getElem (by simpa using h), List.getElem_finRange]
    rfl
  · rename_i h
    rw [List.getElem?_eq_none (by simpa using h)]

theorem backupPinOfCode_eq (v : Nat) :
    backupPinOfCode v = if v = 31 then some none else ((List.finRange 24)[v]?).map some := by
  rw [backupPinOfCode, indexOfField_eq]

theorem cuePhaseOfCode_eq (v : Nat) : cuePhaseOfCode v = if v = 7 then some none else (phaseList[v]?).map some := by
  match v with
  | 0 | 1 | 2 | 3 | 4 | 5 | 6 | 7 => rfl
  | n + 8 => rfl

theorem functionOfCode_eq (kind i : Nat) : functionOfCode kind i = (functionLists.getD kind [])[i]? := by
  have hplain : ∀ f : PinFunction, plainFunction f i = [f][i]? := fun f => by
    cases i <;> rfl
  match kind with
  | 0 | 1 | 2 | 3 => exact (congrArg _ (indexOfField_eq _ i)).trans List.getElem?_map.symm
  | 4 | 5 | 6 | 7 | 8 => exact hplain _
  | n + 9 => rfl

/-! ### Each window -/

/-- Only the low 12 bits of the mask field count (Table 12-7). -/
theorem mask_sent {pdi : Bits} (hl : pdi.length = 8 + 48) :
    BitVec.ofNat 12 (sentField pdi 20 12) = BitVec.ofNat 12 (sentField pdi 16 16) := by
  have hlow : field (natOfBits (pdi.drop 8)) 27 16 = sentField pdi 20 12 := field_eq_sent hl 27 16 (by decide)
  have hwhole : field (natOfBits (pdi.drop 8)) 31 16 = sentField pdi 16 16 := field_eq_sent hl 31 16 (by decide)
  rw [← hlow, ← hwhole]
  apply BitVec.eq_of_toNat_eq
  simp only [field, BitVec.toNat_ofNat]
  omega

theorem writeNode_writtenAs {pdi : Bits} (hl : pdi.length = 8 + 48) (cfg : Configuration) :
    WrittenAs (writeNode (natOfBits (pdi.drop 8)) cfg) (NodeConfig.sent pdi) NodeConfig.limited fun x => { cfg with node := x } := by
  simp (disch := decide) only [writeNode, NodeConfig.sent, field_eq_sent hl, phaseOfCode_eq, clampNat_eq, Nat.zero_max, Nat.reduceSub,
    Nat.reduceAdd, mask_sent hl]
  refine ⟨fun h => Option.map_eq_none_iff.mpr (Option.map_eq_none_iff.mp h), fun x h => ?_⟩
  obtain ⟨phase, hphase, rfl⟩ := Option.map_eq_some_iff.mp h
  refine ⟨_, by rw [hphase]; rfl, ?_⟩
  simp only [Bool.or_eq_true, bne_iff_ne, NodeConfig.limited, ne_eq, NodeConfig.mk.injEq, not_and_or, or_assoc, not_true_eq_false,
    false_or, or_false]

theorem writeMeasure_writtenAs (n : Fin 12) {pdi : Bits} (hl : pdi.length = 8 + 160) (cfg : Configuration) :
    WrittenAs (writeMeasure n (natOfBits (pdi.drop 8)) cfg) (ChannelConfig.sent pdi) ChannelConfig.limited fun x =>
      { cfg with channels := setAt cfg.channels n x } := by
  simp (disch := decide) only [writeMeasure, ChannelConfig.sent, field_eq_sent hl, flagBit_eq_sent hl, channelKindOfCode_eq,
    bindingOfCode_eq, clampNat_eq, Nat.zero_max, clampSigned_sent, Nat.reduceSub, Nat.reduceAdd]
  generalize kindList[sentField pdi 0 4]? = kind
  generalize (if sentField pdi 4 4 = 15 then some none else Option.map some bindingList[sentField pdi 4 4]?) = binding
  refine ⟨fun h => ?_, fun x h => ?_⟩
  · cases kind with
    | none => rfl
    | some _ =>
      cases binding with
      | none => rfl
      | some _ => cases h
  · obtain ⟨k, rfl, h⟩ := Option.bind_eq_some_iff.mp h
    obtain ⟨b, rfl, rfl⟩ := Option.map_eq_some_iff.mp h
    refine ⟨_, rfl, ?_⟩
    simp only [Bool.or_eq_true, bne_iff_ne, ChannelConfig.limited, ne_eq, ChannelConfig.mk.injEq, not_and_or, or_assoc, not_true_eq_false,
      false_or]

theorem writeSource_writtenAs {pdi : Bits} (hl : pdi.length = 8 + 32) (cfg : Configuration) :
    WrittenAs (writeSource (natOfBits (pdi.drop 8)) cfg) (some (SourceConfig.sent pdi)) SourceConfig.limited fun x =>
      { cfg with source := x } := by
  simp (disch := decide) only [writeSource, SourceConfig.sent, field_eq_sent hl, clampNat_eq, Nat.zero_max, Nat.reduceSub, Nat.reduceAdd]
  refine ⟨nofun, fun x h => ?_⟩
  cases h
  refine ⟨_, rfl, ?_⟩
  simp only [Bool.or_eq_true, bne_iff_ne, SourceConfig.limited, ne_eq, SourceConfig.mk.injEq, not_and_or]

theorem writeLoop_writtenAs (n : Fin 4) {pdi : Bits} (hl : pdi.length = 8 + 176) (cfg : Configuration) :
    WrittenAs (writeLoop n (natOfBits (pdi.drop 8)) cfg) (LoopConfig.sent pdi) LoopConfig.limited fun x =>
      { cfg with loops := setAt cfg.loops n x } := by
  simp (disch := decide) only [writeLoop, LoopConfig.sent, field_eq_sent hl, loopClassOfCode_eq, indexOfField_eq, backupPinOfCode_eq,
    clampNat_eq, Nat.zero_max, clampSigned_sent, Nat.reduceSub, Nat.reduceAdd]
  generalize classList[sentField pdi 0 4]? = cls
  generalize (List.finRange 4)[sentField pdi 4 4]? = valve
  generalize (if sentField pdi 8 8 = 31 then some none else Option.map some (List.finRange 24)[sentField pdi 8 8]?) = pin
  refine ⟨fun h => ?_, fun x h => ?_⟩
  · cases cls with
    | none => rfl
    | some _ =>
      cases valve with
      | none => rfl
      | some _ =>
        cases pin with
        | none => rfl
        | some _ => cases h
  · obtain ⟨c, rfl, hvalve⟩ := Option.bind_eq_some_iff.mp h
    obtain ⟨v, rfl, hpin⟩ := Option.bind_eq_some_iff.mp hvalve
    obtain ⟨p, rfl, rfl⟩ := Option.map_eq_some_iff.mp hpin
    refine ⟨_, rfl, ?_⟩
    simp only [Bool.or_eq_true, bne_iff_ne, LoopConfig.limited, ne_eq, LoopConfig.mk.injEq, not_and_or, not_true_eq_false,
      false_or]
    exact Iff.of_eq (by ac_rfl)

theorem writeIce_writtenAs {pdi : Bits} (hl : pdi.length = 8 + 208) (cfg : Configuration) :
    WrittenAs (writeIce (natOfBits (pdi.drop 8)) cfg) (some (IceConfig.sent pdi)) IceConfig.limited fun x =>
      { cfg with ice := x } := by
  simp (disch := decide) only [writeIce, IceConfig.sent, field_eq_sent hl, clampNat_eq, Nat.zero_max, clampPlain_eq, clampSigned_sent,
    Nat.reduceSub, Nat.reduceAdd]
  refine ⟨nofun, fun x h => ?_⟩
  cases h
  refine ⟨_, rfl, ?_⟩
  simp only [Bool.or_eq_true, bne_iff_ne, IceConfig.limited, ne_eq, IceConfig.mk.injEq, not_and_or, or_assoc]

theorem writeFog_writtenAs {pdi : Bits} (hl : pdi.length = 8 + 256) (cfg : Configuration) :
    WrittenAs (writeFog (natOfBits (pdi.drop 8)) cfg) (some (FogConfig.sent pdi)) FogConfig.limited fun x =>
      { cfg with fog := x } := by
  simp (disch := decide) only [writeFog, FogConfig.sent, field_eq_sent hl, clampNat_eq, Nat.zero_max, clampPlain_eq, max_zero_min_cast,
    clampSigned_sent, Nat.reduceSub, Nat.reduceAdd]
  refine ⟨nofun, fun x h => ?_⟩
  cases h
  refine ⟨_, rfl, ?_⟩
  simp only [Bool.or_eq_true, bne_iff_ne, FogConfig.limited, ne_eq, FogConfig.mk.injEq, not_and_or, or_assoc]

theorem writeLight_writtenAs (n : Fin 8) {pdi : Bits} (hl : pdi.length = 8 + 16) (cfg : Configuration) :
    WrittenAs (writeLight n (natOfBits (pdi.drop 8)) cfg) (some (sentField pdi 0 16)) (min 500) fun x =>
      { cfg with coefficients := setAt cfg.coefficients n x } := by
  simp (disch := decide) only [writeLight, field_eq_sent hl, clampNat_eq, Nat.zero_max, Nat.reduceSub, Nat.reduceAdd]
  refine ⟨nofun, fun x h => ?_⟩
  cases h
  exact ⟨_, rfl, bne_iff_ne⟩

theorem writeCueIn_writtenAs (n : Fin 2) {pdi : Bits} (hl : pdi.length = 8 + 48) (cfg : Configuration) :
    WrittenAs (writeCueIn n (natOfBits (pdi.drop 8)) cfg) (CueInputConfig.sent pdi) CueInputConfig.limited fun x =>
      { cfg with cueInputs := setAt cfg.cueInputs n x } := by
  simp (disch := decide) only [writeCueIn, CueInputConfig.sent, field_eq_sent hl, cuePhaseOfCode_eq, clampNat_eq, Nat.zero_max,
    Nat.reduceSub, Nat.reduceAdd]
  generalize (if sentField pdi 8 3 = 7 then some none else Option.map some phaseList[sentField pdi 8 3]?) = phase
  refine ⟨fun h => Option.map_eq_none_iff.mpr (Option.map_eq_none_iff.mp h), fun x h => ?_⟩
  obtain ⟨p, rfl, rfl⟩ := Option.map_eq_some_iff.mp h
  refine ⟨_, rfl, ?_⟩
  simp only [Bool.or_eq_true, bne_iff_ne, CueInputConfig.limited, ne_eq, CueInputConfig.mk.injEq, not_and_or, not_true_eq_false,
    false_or]

/-! ### The windows of four records -/

/-- Four records are listed values where each is; where one is not, there are none (R167). -/
theorem allFour_eq {α : Type} {f : Fin 4 → Option α} {x : Fin 4 → α} (h : ∀ j, f j = some (x j)) :
    allFour f = some (Vector.ofFn x) := by
  unfold allFour
  rw [h 0, h 1, h 2, h 3]
  exact congrArg some (Vector.ext fun i hi => by
    match i with
    | 0 | 1 | 2 | 3 => simp)

theorem allFour_eq_none {α : Type} {f : Fin 4 → Option α} (h : ∃ j, f j = none) : allFour f = none := by
  obtain ⟨j, hj⟩ := h
  cases hall : allFour f with
  | none => rfl
  | some x =>
    rw [allFour_eq_some hall j] at hj
    cases hj

/-- Four neighbours of a vector replaced. -/
theorem setFour_eq_ofFn {α : Type} {n : Nat} (v : Vector α n) {index : Fin 4 → Fin n} {i : Nat}
    (hindex : ∀ j : Fin 4, (index j).val = 4 * i + j.val) (x : Fin 4 → α) :
    setFour v index (Vector.ofFn x) =
      Vector.ofFn fun k : Fin n => if k.val / 4 = i then x (Fin.ofNat 4 k.val) else v[k.val] := by
  refine vector_eq_of_getElem fun k => ?_
  rw [Vector.getElem_ofFn, setFour, setAt_getElem, setAt_getElem, setAt_getElem, setAt_getElem]
  simp only [hindex]
  by_cases hk : k.val / 4 = i
  · have hplace : k.val = 4 * i + (Fin.ofNat 4 k.val).val := by
      rw [Fin.val_ofNat]
      omega
    rw [if_pos hk]
    generalize Fin.ofNat 4 k.val = j at hplace ⊢
    simp only [hplace, Nat.add_left_cancel_iff, Vector.getElem_ofFn]
    fin_cases j <;> rfl
  · have hother : ∀ j : Fin 4, 4 * i + j.val ≠ k.val := fun j h => hk (by omega)
    simp only [hother, hk, if_false]

theorem setFour_eq_ofFn_getElem {α : Type} {n : Nat} (v : Vector α n) {index : Fin 4 → Fin n} {i : Nat}
    (hindex : ∀ j : Fin 4, (index j).val = 4 * i + j.val) (x : Vector α 4) :
    setFour v index x =
      Vector.ofFn fun k : Fin n => if k.val / 4 = i then x[(Fin.ofNat 4 k.val).val] else v[k.val] := by
  have hx : x = Vector.ofFn fun j : Fin 4 => x[j.val] := vector_eq_of_getElem fun j => by rw [Vector.getElem_ofFn]
  exact (congrArg (setFour v index) hx).trans (setFour_eq_ofFn v hindex fun j => x[j.val])

/-- The transaction on a window of four records in UNSET (R167). -/
theorem fourJudged_of {α : Type} {s : State} {code : Code} {w : Window} {pdi : Bits} {f : Fin 4 → Option α}
    {sent : Nat → Option α} {put : (Fin 4 → α) → Configuration} (hf : ∀ j, f j = sent j.val)
    (hwrite : writeWindow w (natOfBits (pdi.drop 8)) s.cfg = (allFour f).map fun x => (put fun j => x[j.val], false))
    (hset : w ≠ .snap 6) (hunset : s.node.state = .unset) :
    FourJudged s ((s.setPort (s.portAfter code w pdi)).applyWrite w (natOfBits (pdi.drop 8))) sent put := by
  have hcaptured := portAfter_capturedSet hset s code pdi
  refine ⟨fun ⟨j, hj⟩ => ?_, fun x hx => ?_⟩
  · rw [allFour_eq_none ⟨j, (hf j).trans hj⟩] at hwrite
    rw [applyWrite_of_none (s := s.setPort (s.portAfter code w pdi)) hunset hwrite]
    exact ⟨_, rfl, rfl, rfl, hcaptured, rfl, rfl⟩
  · rw [allFour_eq fun j => (hf j).trans (hx j), Option.map_some] at hwrite
    rw [applyWrite_of_some (s := s.setPort (s.portAfter code w pdi)) hunset hwrite]
    simp only [Vector.getElem_ofFn]
    exact ⟨_, rfl, rfl, rfl, hcaptured, rfl, rfl⟩

theorem cueMapEntryOf_sent {pdi : Bits} (hl : pdi.length = 8 + 64) (j : Fin 4) :
    cueMapEntryOf (natOfBits (pdi.drop 8)) j = CueMapEntry.sent pdi j.val := by
  have hcue := field_eq_sent hl (63 - 16 * j.val) (56 - 16 * j.val) (by omega)
  have hscene := field_eq_sent hl (55 - 16 * j.val) (48 - 16 * j.val) (by omega)
  rw [show 64 - 1 - (63 - 16 * j.val) = 16 * j.val by omega, show 63 - 16 * j.val + 1 - (56 - 16 * j.val) = 8 by omega] at hcue
  rw [show 64 - 1 - (55 - 16 * j.val) = 16 * j.val + 8 by omega, show 55 - 16 * j.val + 1 - (48 - 16 * j.val) = 8 by omega] at hscene
  simp only [cueMapEntryOf, cueMapField, hcue, hscene, indexOfField_eq, CueMapEntry.sent]

theorem pinOfData_sent {pdi : Bits} (hl : pdi.length = 8 + 64) (j : Fin 4) :
    pinOfData (natOfBits (pdi.drop 8)) j = PinConfig.sent pdi j.val := by
  have hkind := field_eq_sent hl (63 - 16 * j.val) (60 - 16 * j.val) (by omega)
  have hindex := field_eq_sent hl (59 - 16 * j.val) (56 - 16 * j.val) (by omega)
  have hdrive := flagBit_eq_sent hl (55 - 16 * j.val) (by omega)
  have hpull := flagBit_eq_sent hl (54 - 16 * j.val) (by omega)
  have hpolarity := flagBit_eq_sent hl (53 - 16 * j.val) (by omega)
  rw [show 64 - 1 - (63 - 16 * j.val) = 16 * j.val by omega, show 63 - 16 * j.val + 1 - (60 - 16 * j.val) = 4 by omega] at hkind
  rw [show 64 - 1 - (59 - 16 * j.val) = 16 * j.val + 4 by omega, show 59 - 16 * j.val + 1 - (56 - 16 * j.val) = 4 by omega] at hindex
  rw [show 64 - 1 - (55 - 16 * j.val) = 16 * j.val + 8 by omega] at hdrive
  rw [show 64 - 1 - (54 - 16 * j.val) = 16 * j.val + 9 by omega] at hpull
  rw [show 64 - 1 - (53 - 16 * j.val) = 16 * j.val + 10 by omega] at hpolarity
  simp only [pinOfData, PinConfig.sent, hkind, hindex, hdrive, hpull, hpolarity, functionOfCode_eq]

/-- What an exact-length write does in UNSET, window by window (R167). -/
theorem writeJudged {s : State} (hunset : s.node.state = .unset) (code : Code) {w : Window} (hkind : w.kind = .configuration)
    (hscene : w ≠ .scene) {pdi : Bits} (hl : pdi.length = 8 + w.length) :
    WriteJudged s ((s.setPort (s.portAfter code w pdi)).applyWrite w (natOfBits (pdi.drop 8))) pdi w := by
  cases w with
  | ident | snap _ | peer _ | action _ => cases hkind
  | scene => exact absurd rfl hscene
  | node => exact WrittenAs.judged (w := .node) (writeNode_writtenAs hl s.cfg) nofun hunset
  | measure n => exact WrittenAs.judged (w := .measure n) (writeMeasure_writtenAs n hl s.cfg) nofun hunset
  | source => exact WrittenAs.judged (w := .source) (writeSource_writtenAs hl s.cfg) nofun hunset
  | loop n => exact WrittenAs.judged (w := .loop n) (writeLoop_writtenAs n hl s.cfg) nofun hunset
  | ice => exact WrittenAs.judged (w := .ice) (writeIce_writtenAs hl s.cfg) nofun hunset
  | fog => exact WrittenAs.judged (w := .fog) (writeFog_writtenAs hl s.cfg) nofun hunset
  | light n => exact WrittenAs.judged (w := .light n) (writeLight_writtenAs n hl s.cfg) nofun hunset
  | cueIn n => exact WrittenAs.judged (w := .cueIn n) (writeCueIn_writtenAs n hl s.cfg) nofun hunset
  | cueMap i =>
    refine fourJudged_of (f := cueMapEntryOf (natOfBits (pdi.drop 8))) (cueMapEntryOf_sent hl) ?_ nofun hunset
    simp only [writeWindow, writeCueMap, setFour_eq_ofFn_getElem s.cfg.cueMap (index := cueMapAt i) (i := i.val) fun j => rfl]
  | pins i =>
    refine fourJudged_of (f := pinOfData (natOfBits (pdi.drop 8))) (pinOfData_sent hl) ?_ nofun hunset
    simp only [writeWindow, writePins, setFour_eq_ofFn_getElem s.cfg.pins (index := pinAt i) (i := i.val) fun j => rfl]

/-- Settles O25: outside UNSET a write is refused, and in UNSET each window's write is judged by its fields as sent. -/
theorem configurationWritesAreJudged : Obligations.ConfigurationWritesAreJudged := by
  intro s code w pdi hready hw hkind hl
  refine ⟨fun hscene => ?_, fun hscene => ⟨_, exec_configurationWrite hready hw hkind hl, fun hset => ?_, fun hunset => ?_⟩⟩
  · subst hscene
    rw [exec_configurationWrite hready hw hkind hl, show exec (.sceneWrite pdi) s = takenIf (portReady s) s (s.transact (codeOf 8 0) pdi)
      from rfl, takenIf_of_true hready, code_of_scene hw]
  · have hcaptured := portAfter_capturedSet (w := w) (fun h => by rw [h] at hkind; cases hkind) s code pdi
    rw [transact_write hw hkind hscene hl, applyWrite_of_not_unset (s := s.setPort (s.portAfter code w pdi)) hset]
    exact ⟨_, rfl, rfl, rfl, hcaptured, rfl, rfl⟩
  · rw [transact_write hw hkind hscene hl]
    exact writeJudged hunset code hkind hscene hl

end Sys2Proof.Machine

/-!
PROOFS. The SCENE window (O26), and that every configuration window reads back as written (O27).
-/
namespace Sys2Proof.Machine

/-! ### SCENE -/

/-- A SCENE transaction (R165, R166, R167): the pointer by its data, and the scenes and the result by length, node state and number. -/
theorem transact_scene (s : State) (pdi : Bits) : ∃ scenes r,
    s.transact (codeOf 8 0) pdi = (s.setCfg { s.cfg with scenes := scenes }).setPort { s.portAfter (codeOf 8 0) .scene pdi with
      lastResult := r, scenePointer := pointerAfter s.port.scenePointer pdi } ∧
    (pdi.length ≠ 168 → scenes = s.cfg.scenes ∧ r = .discardedLength) ∧
    (pdi.length = 168 → s.node.state ≠ .unset → scenes = s.cfg.scenes ∧ r = .refusedState) ∧
    (pdi.length = 168 → s.node.state = .unset → indexOfField 32 (field (natOfBits (pdi.drop 8)) 159 152) = none →
      scenes = s.cfg.scenes ∧ r = .refusedValue) ∧
    ∀ k, pdi.length = 168 → s.node.state = .unset → indexOfField 32 (field (natOfBits (pdi.drop 8)) 159 152) = some k →
      scenes = setAt s.cfg.scenes k (sceneOfData (natOfBits (pdi.drop 8))).1 ∧
        r = if (sceneOfData (natOfBits (pdi.drop 8))).2 then .clamped else .applied := by
  by_cases hl : pdi.length = 168
  · have htransact : s.transact (codeOf 8 0) pdi =
        ((s.setPort (s.portAfter (codeOf 8 0) .scene pdi)).applyWrite .scene (natOfBits (pdi.drop 8))).setPointer pdi := by
      rw [transact_writable (w := .scene) rfl nofun, endTransaction_scene,
        if_pos (show exactLength .scene pdi = true from decide_eq_true hl)]
      rfl
    by_cases hunset : s.node.state = .unset
    · cases hk : indexOfField 32 (field (natOfBits (pdi.drop 8)) 159 152) with
      | none =>
        have hwrite : writeWindow .scene (natOfBits (pdi.drop 8)) s.cfg = none := by
          rw [writeWindow, writeScene, hk, Option.map_none]
        rw [applyWrite_of_none (s := s.setPort (s.portAfter (codeOf 8 0) .scene pdi)) hunset hwrite] at htransact
        exact ⟨s.cfg.scenes, .refusedValue, htransact, fun h => absurd hl h, fun _ h => absurd hunset h, fun _ _ _ => ⟨rfl, rfl⟩,
          nofun⟩
      | some k =>
        have hwrite : writeWindow .scene (natOfBits (pdi.drop 8)) s.cfg =
            some ({ s.cfg with scenes := setAt s.cfg.scenes k (sceneOfData (natOfBits (pdi.drop 8))).1 },
              (sceneOfData (natOfBits (pdi.drop 8))).2) := by
          rw [writeWindow, writeScene, hk, Option.map_some]
        rw [applyWrite_of_some (s := s.setPort (s.portAfter (codeOf 8 0) .scene pdi)) hunset hwrite] at htransact
        refine ⟨_, _, htransact, fun h => absurd hl h, fun _ h => absurd hunset h, nofun, fun k' _ _ h => ?_⟩
        cases h
        exact ⟨rfl, rfl⟩
    · rw [applyWrite_of_not_unset (s := s.setPort (s.portAfter (codeOf 8 0) .scene pdi)) hunset] at htransact
      exact ⟨s.cfg.scenes, .refusedState, htransact, fun h => absurd hl h, fun _ _ => ⟨rfl, rfl⟩, fun _ h => absurd h hunset,
        fun _ _ h => absurd h hunset⟩
  · have htransact := transact_scene_wrongLength (c := codeOf 8 0) (pdi := pdi) rfl (decide_eq_false hl) s
    exact ⟨s.cfg.scenes, .discardedLength, htransact, fun _ => ⟨rfl, rfl⟩, fun h => absurd h hl, fun h => absurd h hl,
      fun _ h => absurd h hl⟩

/-- A flag field is the bit sent at its place (R171). -/
theorem getElem?_eq_sentFlag {pdi : Bits} {start : Nat} (h : 8 + start < pdi.length) : pdi[8 + start]? = some (sentFlag pdi start) := by
  have hone : (pdi.drop (8 + start)).take 1 = [pdi[8 + start]] := by
    rw [List.take_one, List.head?_drop, List.getElem?_eq_getElem h]
    rfl
  rw [List.getElem?_eq_getElem h, sentFlag, sentField, hone]
  cases pdi[8 + start] <;> rfl

/-- A SCENE's fields as sent (Table 12-9). -/
theorem sceneOfData_sent {pdi : Bits} (hl : pdi.length = 8 + 160) {level : Fin 8 → Nat} {on off : Nat}
    (hlevel : ∀ n : Fin 8, level n = natOfBits ((pdi.drop (16 + 16 * n.val)).take 16))
    (hon : on = natOfBits ((pdi.drop 152).take 8)) (hoff : off = natOfBits ((pdi.drop 160).take 8)) :
    (∀ n : Fin 8, (sceneOfData (natOfBits (pdi.drop 8))).1.levels[n.val] =
        (if level n = 65535 then none else some (min 1000 (level n))) ∧
      pdi[144 + (7 - n.val)]? = some (sceneOfData (natOfBits (pdi.drop 8))).1.marks[n.val]) ∧
    (sceneOfData (natOfBits (pdi.drop 8))).1.onWidth = max 1 on ∧ (sceneOfData (natOfBits (pdi.drop 8))).1.offWidth = max 1 off ∧
    ((sceneOfData (natOfBits (pdi.drop 8))).2 = true ↔ (∃ n, 1000 < level n ∧ level n ≠ 65535) ∨ on = 0 ∨ off = 0) := by
  have hlevels : ∀ n : Fin 8, sceneLevelField (natOfBits (pdi.drop 8)) n = level n := fun n => by
    have hsent := field_eq_sent hl (151 - 16 * n.val) (136 - 16 * n.val) (by omega)
    rw [show 160 - 1 - (151 - 16 * n.val) = 8 + 16 * n.val by omega, show 151 - 16 * n.val + 1 - (136 - 16 * n.val) = 16 by omega,
      sentField, show 8 + (8 + 16 * n.val) = 16 + 16 * n.val by omega, ← hlevel n] at hsent
    exact hsent
  have hon' : field (natOfBits (pdi.drop 8)) 15 8 = on := (field_eq_sent hl 15 8 (by decide)).trans hon.symm
  have hoff' : field (natOfBits (pdi.drop 8)) 7 0 = off := (field_eq_sent hl 7 0 (by decide)).trans hoff.symm
  have hbyte : ∀ l : Bits, natOfBits (l.take 8) ≤ 255 := fun l => by
    have hlt := natOfBits_lt (l.take 8)
    have hpow : 2 ^ (l.take 8).length ≤ 2 ^ 8 := Nat.pow_le_pow_right (by decide) (by rw [List.length_take]; omega)
    omega
  have honle : on ≤ 255 := hon ▸ hbyte _
  have hoffle : off ≤ 255 := hoff ▸ hbyte _
  refine ⟨fun n => ⟨?_, ?_⟩, ?_, ?_, ?_⟩
  · rw [sceneOfData, Vector.getElem_ofFn, hlevels, levelOfField]
    split <;> rfl
  · have hflag := flagBit_eq_sent hl (16 + n.val) (by omega)
    have hbit := getElem?_eq_sentFlag (pdi := pdi) (start := 160 - 1 - (16 + n.val)) (by omega)
    rw [show 8 + (160 - 1 - (16 + n.val)) = 144 + (7 - n.val) by omega] at hbit
    rw [sceneOfData, Vector.getElem_ofFn, hbit, hflag]
  · simp only [sceneOfData, hon', clampNat_eq, Nat.min_eq_right honle]
  · simp only [sceneOfData, hoff', clampNat_eq, Nat.min_eq_right hoffle]
  · have hwidth : ∀ v, v ≤ 255 → ((clampNat 1 255 v).2 = true ↔ v = 0) := fun v hv => by
      rw [clampNat_eq, bne_iff_ne]
      omega
    have hclamps : ∀ v, (levelOfField v).2 = true ↔ 1000 < v ∧ v ≠ 65535 := fun v => by
      unfold levelOfField
      split
      · simp_all
      · rw [bne_iff_ne]
        omega
    simp only [sceneOfData, hon', hoff', hlevels, Bool.or_eq_true, hwidth on honle, hwidth off hoffle, List.any_eq_true,
      List.mem_finRange, true_and, hclamps]
    exact or_comm

/-- Settles O26: the pointer and the write, clause by clause, from the one form of a SCENE transaction. -/
theorem sceneTransactionSetsPointerAndScene : Obligations.SceneTransactionSetsPointerAndScene := by
  intro s pdi hready
  obtain ⟨scenes, r, htransact, hwrong, hset, hvalue, hwritten⟩ := transact_scene s pdi
  have hnumber : pdi.length = 168 → field (natOfBits (pdi.drop 8)) 159 152 = natOfBits ((pdi.drop 8).take 8) := fun hl =>
    field_eq_sent (length := 160) hl 159 152 (by decide)
  have hcfg : scenes = s.cfg.scenes → { s.cfg with scenes := scenes } = s.cfg := fun h => by rw [h]
  refine ⟨(s.setCfg { s.cfg with scenes := scenes }).setPort
      { s.portAfter (codeOf 8 0) .scene pdi with lastResult := r, scenePointer := pointerAfter s.port.scenePointer pdi }, _,
    (takenIf_of_true hready).trans (congrArg _ htransact), rfl, fun h => pointerAfter_of_short h _, fun h hn => pointerAfter_of_number h hn _, fun hn => pointerAfter_of_other hn _,
    fun hl => ?_, fun hl hnot => ?_, fun hl hunset hn => ?_, fun k level on off hl hunset hk hlevel hon hoff => ?_⟩
  · obtain ⟨hscenes, hr⟩ := hwrong hl
    exact ⟨hcfg hscenes, hr⟩
  · obtain ⟨hscenes, hr⟩ := hset hl hnot
    exact ⟨hcfg hscenes, hr⟩
  · obtain ⟨hscenes, hr⟩ := hvalue hl hunset (by rw [hnumber hl]; exact dif_neg (by omega))
    exact ⟨hcfg hscenes, hr⟩
  · obtain ⟨hscenes, hr⟩ := hwritten k hl hunset (by rw [hnumber hl, hk]; exact dif_pos k.isLt)
    obtain ⟨hfields, hwon, hwoff, hclamped⟩ := sceneOfData_sent hl hlevel hon hoff
    subst hscenes
    refine ⟨fun j hj => setAt_getElem_ne _ _ _ _ hj.symm, fun n => ?_, ?_, ?_, fun h => ?_, fun hlevels hon0 hoff0 => ?_⟩
    · simp only [State.setPort_cfg, State.setCfg_cfg, setAt_getElem_self]
      exact hfields n
    · simp only [State.setPort_cfg, State.setCfg_cfg, setAt_getElem_self]
      exact hwon
    · simp only [State.setPort_cfg, State.setCfg_cfg, setAt_getElem_self]
      exact hwoff
    · rw [if_pos (hclamped.mpr h)] at hr
      exact hr
    · have hno : ¬(sceneOfData (natOfBits (pdi.drop 8))).2 = true := by
        rw [hclamped]
        rintro (⟨n, hlow, hkeep⟩ | hzero | hzero)
        · rcases hlevels n with hle | he
          · omega
          · exact hkeep he
        · exact hon0 hzero
        · exact hoff0 hzero
      rw [if_neg hno] at hr
      exact hr

end Sys2Proof.Machine

/-!
PROOFS. Every configuration window reads back as written (O27): the fields of a packed record are sent as they stand (R171).
-/
namespace Sys2Proof.Machine

/-! ### Parts of a run of bits -/

/-- The number that `width` bits spell, `start` bits into a run of bits. -/
def part (l : Bits) (start width : Nat) : Nat := natOfBits ((l.drop start).take width)

/-- A field of a transaction's data is that part of what follows the first eight bits (R165). -/
theorem sentField_append {pre : Bits} (h : pre.length = 8) (l : Bits) (start width : Nat) :
    sentField (pre ++ l) start width = part l start width := by
  rw [sentField, part, ← List.drop_drop, List.drop_left' h]

theorem part_append_right {a b : Bits} {start width : Nat} (h : a.length ≤ start) :
    part (a ++ b) start width = part b (start - a.length) width := by
  rw [part, part, List.drop_append, List.drop_of_length_le h, List.nil_append]

theorem part_append_left {a b : Bits} {start width : Nat} (h : start + width ≤ a.length) :
    part (a ++ b) start width = part a start width := by
  rw [part, part, List.drop_append, List.take_append, List.length_drop, show width - (a.length - start) = 0 by omega, List.take_zero,
    List.append_nil]

/-- The first field of a packed record. -/
theorem part_packFields_here (width v : Nat) (rest : List (Nat × Nat)) :
    part (packFields ((width, v) :: rest)) 0 width = v % 2 ^ width := by
  rw [packFields, part_append_left (by rw [bitsOfNat_length, Nat.zero_add]), part, List.drop_zero,
    List.take_of_length_le (bitsOfNat_length _ _).le, natOfBits_bitsOfNat]

/-- A later field of a packed record. -/
theorem part_packFields_skip (w v : Nat) (rest : List (Nat × Nat)) (start width : Nat) (h : w ≤ start) :
    part (packFields ((w, v) :: rest)) start width = part (packFields rest) (start - w) width := by
  rw [packFields, part_append_right (by rw [bitsOfNat_length]; exact h), bitsOfNat_length]

/-- A field of one of four records of 16 bits. -/
theorem part_four {f : Fin 4 → Bits} (hf : ∀ j, (f j).length = 16) (j : Fin 4) {start width : Nat} (h : start + width ≤ 16) :
    part ((List.finRange 4).map f).flatten (16 * j.val + start) width = part (f j) start width := by
  have hflat : ((List.finRange 4).map f).flatten = f 0 ++ (f 1 ++ (f 2 ++ (f 3 ++ []))) := rfl
  rw [hflat]
  fin_cases j
  · rw [part_append_left (by simp [hf, h])]
    simp
  · rw [part_append_right (by simp [hf]), part_append_left (by simp [hf]; omega)]
    simp [hf]
  · rw [part_append_right (by simp [hf]; omega), part_append_right (by simp [hf]; omega), part_append_left (by simp [hf]; omega)]
    simp [hf]
    congr 1
    omega
  · rw [part_append_right (by simp [hf]; omega), part_append_right (by simp [hf]; omega), part_append_right (by simp [hf]; omega),
      part_append_left (by simp [hf]; omega)]
    simp [hf]
    congr 1
    omega

/-- A field of one bit (R171). -/
theorem sentFlag_eq (pdi : Bits) (start : Nat) : sentFlag pdi start = (sentField pdi start 1 == 1) := rfl

theorem sentSigned_eq (pdi : Bits) (start : Nat) : sentSigned pdi start = signed16 (sentField pdi start 16) := rfl

/-- A flag sent as one bit. -/
theorem toNat_bit (b : Bool) : (b.toNat % 2 ^ 1 == 1) = b := by
  cases b <;> rfl

/-- A number in two's complement reads back (R171). -/
theorem signed16_toField (x : Int) (h : -32768 ≤ x ∧ x < 32768) : signed16 (toField 16 x % 2 ^ 16) = x := by
  unfold signed16 toField
  omega

/-- A number that is not negative reads back from a plain field (R171). -/
theorem toField_cast (x : Int) (h : 0 ≤ x ∧ x < 32768) : ((toField 16 x % 2 ^ 16 : Nat) : Int) = x := by
  unfold toField
  omega

/-! ### Codes of listed values -/

theorem phaseList_code (p : Phase) : phaseList[phaseCode p % 2 ^ 4]? = some p := by
  cases p <;> rfl

theorem kindList_code (k : ChannelKind) : kindList[channelKindCode k % 2 ^ 4]? = some k := by
  cases k <;> rfl

theorem bindingList_code (b : Option Binding) : (if bindingCode b % 2 ^ 4 = 15 then some none
    else (bindingList[bindingCode b % 2 ^ 4]?).map some) = some b := by
  rcases b with _ | ⟨⟩ | ⟨⟩ | ⟨⟩ | ⟨⟩ | ⟨⟩ | ⟨⟩ | ⟨⟩ | n | ⟨⟩
  case some.loopT => fin_cases n <;> rfl
  all_goals rfl

theorem classList_code (c : Option HeatClass) : classList[loopClassCode c % 2 ^ 4]? = some c := by
  rcases c with _ | c
  · rfl
  · cases c <;> rfl

theorem cuePhaseList_code (p : Option Phase) :
    (if cuePhaseCode p % 2 ^ 3 = 7 then some none else (phaseList[cuePhaseCode p % 2 ^ 3]?).map some) = some p := by
  rcases p with _ | p
  · rfl
  · cases p <;> rfl

theorem finRange_getElem? {n m : Nat} (i : Fin n) (h : n ≤ 2 ^ m) : (List.finRange n)[i.val % 2 ^ m]? = some i := by
  rw [Nat.mod_eq_of_lt (by omega), ← indexOfField_eq]
  exact dif_pos i.isLt

theorem backupPin_code (p : Option (Fin 24)) : (if backupPinCode p % 2 ^ 8 = 31 then some none
    else ((List.finRange 24)[backupPinCode p % 2 ^ 8]?).map some) = some p := by
  cases p with
  | none => rfl
  | some n =>
    rw [backupPinCode, if_neg (by omega), finRange_getElem? n (by decide)]
    rfl

theorem functionLists_code (f : PinFunction) :
    (functionLists.getD ((functionCode f).1 % 2 ^ 4) [])[(functionCode f).2 % 2 ^ 4]? = some f := by
  cases f with
  | dimmer n | valve n | backup n | cueIn n =>
    revert n
    decide
  | _ => rfl

/-! ### Records read back -/

theorem node_sent {pre : Bits} (hpre : pre.length = 8) {c : NodeConfig} (h : c.address ≤ 60 ∧ c.period ≤ 7 ∧ c.lightFloor ≤ 1000) :
    NodeConfig.sent (pre ++ nodeBits c) = some c ∧ c.limited = c := by
  obtain ⟨haddress, hperiod, hfloor⟩ := h
  have hmask : c.mask.toNat < 2 ^ 12 := c.mask.isLt
  refine ⟨?_, ?_⟩
  · simp (disch := decide) only [NodeConfig.sent, sentField_append hpre, nodeBits, part_packFields_here, part_packFields_skip,
      Nat.reduceSub, phaseList_code, Option.map_some]
    simp (disch := omega) only [Nat.mod_eq_of_lt, BitVec.ofNat_toNat, BitVec.setWidth_eq]
  · simp only [NodeConfig.limited, Nat.min_eq_right haddress, Nat.min_eq_right hperiod, Nat.min_eq_right hfloor]

theorem measure_sent {pre : Bits} (hpre : pre.length = 8) {c : ChannelConfig} (h : ChannelConfigLegal c) (l : ChannelLive) :
    ChannelConfig.sent (pre ++ measureBits c l) = some c ∧ c.limited = c := by
  obtain ⟨⟨htl, hth⟩, ⟨hfl, hfh⟩, hstep⟩ := h
  refine ⟨?_, ?_⟩
  · simp (disch := decide) only [ChannelConfig.sent, sentSigned_eq, sentFlag_eq, sentField_append hpre, measureBits, part_packFields_here,
      part_packFields_skip, Nat.reduceSub, kindList_code, bindingList_code, Option.map_some, Option.bind_some, toNat_bit]
    simp (disch := omega) only [Nat.mod_eq_of_lt, signed16_toField]
  · simp (disch := omega) only [ChannelConfig.limited, min_eq_right, max_eq_right]

theorem source_sent {pre : Bits} (hpre : pre.length = 8) {c : SourceConfig}
    (h : (1000 ≤ c.capacity ∧ c.capacity ≤ 4500) ∧ c.fraction ≤ 1000) :
    SourceConfig.sent (pre ++ sourceBits c) = c ∧ c.limited = c := by
  obtain ⟨⟨hlow, hhigh⟩, hfraction⟩ := h
  refine ⟨?_, ?_⟩
  · simp (disch := decide) only [SourceConfig.sent, sentField_append hpre, sourceBits, part_packFields_here, part_packFields_skip,
      Nat.reduceSub]
    simp (disch := omega) only [Nat.mod_eq_of_lt]
  · simp (disch := omega) only [SourceConfig.limited, min_eq_right, max_eq_right]

theorem loop_sent {pre : Bits} (hpre : pre.length = 8) {c : LoopConfig} (h : LoopConfigLegal c) :
    LoopConfig.sent (pre ++ loopBits c) = some c ∧ c.limited = c := by
  obtain ⟨hdesign, ⟨⟨hil, hih⟩, ⟨hpl, hph⟩, ⟨hvl, hvh⟩, ⟨hsl, hsh⟩, hnl, hnh⟩, ⟨hbl, hbh⟩, hthreshold, hhold, hfallback⟩ := h
  refine ⟨?_, ?_⟩
  · simp (disch := decide) only [LoopConfig.sent, sentSigned_eq, sentField_append hpre, loopBits, part_packFields_here,
      part_packFields_skip, Nat.reduceSub, classList_code, finRange_getElem?, backupPin_code, Option.map_some, Option.bind_some]
    simp (disch := omega) only [Nat.mod_eq_of_lt, signed16_toField]
  · simp (disch := omega) only [LoopConfig.limited, min_eq_right, max_eq_right]

theorem ice_sent {pre : Bits} (hpre : pre.length = 8) {c : IceConfig} (h : IceConfigLegal c) :
    IceConfig.sent (pre ++ iceBits c) = c ∧ c.limited = c := by
  obtain ⟨⟨⟨hil, hih⟩, ⟨hpl, hph⟩, ⟨hvl, hvh⟩, ⟨hsl, hsh⟩, hnl, hnh⟩, ⟨hwl, hwh⟩, hsensitivity, ⟨hul, huh⟩, ⟨hll, hlh⟩, hfloor,
    ⟨hrl, hrh⟩, htl, hth⟩ := h
  refine ⟨?_, ?_⟩
  · simp (disch := decide) only [IceConfig.sent, sentSigned_eq, sentField_append hpre, iceBits, part_packFields_here,
      part_packFields_skip, Nat.reduceSub]
    simp (disch := omega) only [Nat.mod_eq_of_lt, signed16_toField, toField_cast]
  · simp (disch := omega) only [IceConfig.limited, min_eq_right, max_eq_right]

theorem fog_sent {pre : Bits} (hpre : pre.length = 8) {c : FogConfig} (h : FogConfigLegal c) :
    FogConfig.sent (pre ++ fogBits c) = c ∧ c.limited = c := by
  obtain ⟨⟨hwl, hwh⟩, ⟨hal, hah⟩, ⟨hhl, hhh⟩, ⟨hfl, hfh⟩, ⟨hbl, hbh⟩, ⟨hyl, hyh⟩, ⟨hdl, hdh⟩, ⟨hcl, hch⟩, hregen, hcurtail⟩ := h
  have hr0 : c.regenClear ≤ 1000 := hregen .clear
  have hr1 : c.regenWatch ≤ 1000 := hregen .watch
  have hr2 : c.regenAct ≤ 1000 := hregen .act
  have hr3 : c.regenFog ≤ 1000 := hregen .fog
  have hc0 : c.curtailClear ≤ 1000 := hcurtail .clear
  have hc1 : c.curtailWatch ≤ 1000 := hcurtail .watch
  have hc2 : c.curtailAct ≤ 1000 := hcurtail .act
  have hc3 : c.curtailFog ≤ 1000 := hcurtail .fog
  refine ⟨?_, ?_⟩
  · simp (disch := decide) only [FogConfig.sent, sentSigned_eq, sentField_append hpre, fogBits, part_packFields_here,
      part_packFields_skip, Nat.reduceSub]
    simp (disch := omega) only [Nat.mod_eq_of_lt, signed16_toField, toField_cast]
  · simp (disch := omega) only [FogConfig.limited, min_eq_right, max_eq_right]

theorem light_sent {pre : Bits} (hpre : pre.length = 8) {v : Nat} (h : v ≤ 500) : sentField (pre ++ bitsOfNat 16 v) 0 16 = v := by
  rw [sentField_append hpre, part, List.drop_zero, List.take_of_length_le (bitsOfNat_length _ _).le, natOfBits_bitsOfNat]
  omega

theorem cueIn_sent {pre : Bits} (hpre : pre.length = 8) {c : CueInputConfig} (h : c.number ≤ 255 ∧ c.wait ≤ 600 ∧ c.fade ≤ 600) :
    CueInputConfig.sent (pre ++ cueInBits c) = some c ∧ c.limited = c := by
  obtain ⟨hnumber, hwait, hfade⟩ := h
  refine ⟨?_, ?_⟩
  · simp (disch := decide) only [CueInputConfig.sent, sentField_append hpre, cueInBits, part_packFields_here, part_packFields_skip,
      Nat.reduceSub, cuePhaseList_code, Option.map_some]
    simp (disch := omega) only [Nat.mod_eq_of_lt]
  · simp (disch := omega) only [CueInputConfig.limited, min_eq_right]

theorem cueMap_sent {pre : Bits} (hpre : pre.length = 8) {m : Vector CueMapEntry 64} (h : ∀ n : Fin 64, (m[n.val]).cue ≤ 255)
    (i : Fin 16) (j : Fin 4) : CueMapEntry.sent (pre ++ cueMapBits m i) j.val = some m[cueMapAt i j] := by
  have hcue : (m[cueMapAt i j]).cue ≤ 255 := h (cueMapAt i j)
  have hpart : ∀ {start width}, start + width ≤ 16 → part (cueMapBits m i) (16 * j.val + start) width =
      part (packFields [(8, (m[cueMapAt i j]).cue), (8, (m[cueMapAt i j]).scene.val)]) start width := fun hw =>
    part_four (f := fun j => packFields [(8, (m[cueMapAt i j]).cue), (8, (m[cueMapAt i j]).scene.val)])
      (fun j => by simp [packFields]) j hw
  have hfirst := hpart (start := 0) (width := 8) (by decide)
  rw [Nat.add_zero] at hfirst
  simp (disch := decide) only [CueMapEntry.sent, sentField_append hpre, hfirst, hpart, part_packFields_here, part_packFields_skip,
    Nat.reduceSub, finRange_getElem?, Option.map_some]
  simp (disch := omega) only [Nat.mod_eq_of_lt]

theorem pins_sent {pre : Bits} (hpre : pre.length = 8) (pins : Vector PinConfig 24) (i : Fin 6) (j : Fin 4) :
    PinConfig.sent (pre ++ pinsBits pins i) j.val = some pins[pinAt i j] := by
  have hpart : ∀ {start width}, start + width ≤ 16 → part (pinsBits pins i) (16 * j.val + start) width =
      part (pinBits pins[pinAt i j]) start width := fun hw =>
    part_four (f := fun j => pinBits pins[pinAt i j]) (fun j => by simp [pinBits, packFields]) j hw
  have hfirst := hpart (start := 0) (width := 4) (by decide)
  rw [Nat.add_zero] at hfirst
  simp (disch := decide) only [PinConfig.sent, sentFlag_eq, sentField_append hpre, hfirst, hpart, pinBits, part_packFields_here,
    part_packFields_skip, Nat.reduceSub, functionLists_code, Option.map_some, toNat_bit]
  obtain ⟨function, drive, pullUp, polarity⟩ := pins[pinAt i j]
  cases drive <;> cases polarity <;> rfl

/-! ### The transaction -/

/-- A record sent within its ranges is applied as sent (R167). -/
theorem RecordJudged.reads {α : Type} {s t : State} {sent : Option α} {limited : α → α} {put : α → Configuration} {x : α}
    (h : RecordJudged s t sent limited put) (hsent : sent = some x) (hsame : limited x = x) :
    ∃ p, t = (s.setCfg (put x)).setPort p ∧ p.lastResult = .applied := by
  obtain ⟨p, ht, hr, -⟩ := (h.2 x hsent).1 hsame
  exact ⟨p, ht, hr⟩

theorem packFields_length (fs : List (Nat × Nat)) : (packFields fs).length = (fs.map Prod.fst).sum := by
  induction fs with
  | nil => rfl
  | cons f rest ih => rw [packFields, List.length_append, bitsOfNat_length, ih, List.map_cons, List.sum_cons]

/-- A configuration window is shown in as many bits as it has (Table 11-1). -/
theorem shownBits_length_of_configuration {w : Window} (hw : w.kind = .configuration) (s : State) :
    (shownBits w.length (contentsOf s w)).length = w.length := by
  cases w with
  | ident | snap _ | peer _ | action _ => cases hw
  | light n => exact bitsOfNat_length _ _
  | cueMap i => simp [contentsOf, shownBits, cueMapBits, Window.length, List.length_flatten]; rfl
  | pins i => simp [contentsOf, shownBits, pinsBits, pinBits, Window.length, List.length_flatten]; rfl
  | scene => simp [contentsOf, shownBits, sceneBits, packFields_length, Window.length]; rfl
  | node => simp [contentsOf, shownBits, nodeBits, packFields_length, Window.length]
  | measure n => simp [contentsOf, shownBits, measureBits, packFields_length, Window.length]
  | source => simp [contentsOf, shownBits, sourceBits, packFields_length, Window.length]
  | loop n => simp [contentsOf, shownBits, loopBits, packFields_length, Window.length]
  | ice => simp [contentsOf, shownBits, iceBits, packFields_length, Window.length]
  | fog => simp [contentsOf, shownBits, fogBits, packFields_length, Window.length]
  | cueIn n => simp [contentsOf, shownBits, cueInBits, packFields_length, Window.length]

/-- Two scenes with the same fields. -/
theorem scene_ext {c d : Scene} (hlevels : ∀ n : Fin 8, c.levels[n.val] = d.levels[n.val])
    (hmarks : ∀ n : Fin 8, c.marks[n.val] = d.marks[n.val]) (hon : c.onWidth = d.onWidth) (hoff : c.offWidth = d.offWidth) : c = d := by
  obtain ⟨cl, cm, con, coff⟩ := c
  obtain ⟨dl, dm, don, doff⟩ := d
  simp only [Scene.mk.injEq]
  exact ⟨vector_eq_of_getElem hlevels, vector_eq_of_getElem hmarks, hon, hoff⟩

/-- The parts of SCENE's bits (Table 12-9). -/
theorem sceneBits_parts (k : Fin 32) {c : Scene} (h : SceneLegal c) :
    part (sceneBits k.val c) 0 8 = k.val ∧ (∀ n : Fin 8, part (sceneBits k.val c) (8 + 16 * n.val) 16 = levelCode c.levels[n.val]) ∧
    (∀ n : Fin 8, (sceneBits k.val c)[136 + (7 - n.val)]? = some c.marks[n.val]) ∧
    part (sceneBits k.val c) 144 8 = c.onWidth ∧ part (sceneBits k.val c) 152 8 = c.offWidth := by
  obtain ⟨hlevels, ⟨-, hon⟩, -, hoff⟩ := h
  have hfields : sceneBits k.val c = packFields [(8, k.val), (16, levelCode c.levels[0]), (16, levelCode c.levels[1]),
      (16, levelCode c.levels[2]), (16, levelCode c.levels[3]), (16, levelCode c.levels[4]), (16, levelCode c.levels[5]),
      (16, levelCode c.levels[6]), (16, levelCode c.levels[7]), (8, marksByte c.marks), (8, c.onWidth), (8, c.offWidth)] := rfl
  have hlevel : ∀ n : Fin 8, levelCode c.levels[n.val] < 2 ^ 16 := fun n => by
    cases hl : c.levels[n.val] with
    | none => decide
    | some l => exact Nat.lt_of_le_of_lt (hlevels n l hl) (by decide)
  have hmarks : ∀ n : Fin 8, (packFields [(8, marksByte c.marks), (8, c.onWidth), (8, c.offWidth)])[7 - n.val]? = some c.marks[n.val] := by
    have hflags : bitsOfNat 8 (marksByte c.marks) = (List.finRange 8).reverse.map fun n => c.marks[n] := bitsOfNat_flags 8 _
    intro n
    rw [packFields, List.getElem?_append_left (by rw [bitsOfNat_length]; omega), hflags]
    fin_cases n <;> rfl
  rw [hfields]
  refine ⟨?_, fun n => ?_, fun n => ?_, ?_, ?_⟩
  · rw [part_packFields_here]
    omega
  · have hmod := Nat.mod_eq_of_lt (hlevel n)
    fin_cases n <;> simp (disch := decide) only [part_packFields_here, part_packFields_skip, Nat.reduceSub, Nat.reduceAdd, Nat.reduceMul] <;>
      exact hmod
  · have hsplit := packFields_append [(8, k.val), (16, levelCode c.levels[0]), (16, levelCode c.levels[1]), (16, levelCode c.levels[2]),
      (16, levelCode c.levels[3]), (16, levelCode c.levels[4]), (16, levelCode c.levels[5]), (16, levelCode c.levels[6]),
      (16, levelCode c.levels[7])] [(8, marksByte c.marks), (8, c.onWidth), (8, c.offWidth)]
    rw [List.cons_append, List.cons_append, List.cons_append, List.cons_append, List.cons_append, List.cons_append, List.cons_append,
      List.cons_append, List.cons_append, List.nil_append] at hsplit
    obtain ⟨front, hfront⟩ : ∃ front, front = packFields [(8, k.val), (16, levelCode c.levels[0]), (16, levelCode c.levels[1]),
      (16, levelCode c.levels[2]), (16, levelCode c.levels[3]), (16, levelCode c.levels[4]), (16, levelCode c.levels[5]),
      (16, levelCode c.levels[6]), (16, levelCode c.levels[7])] := ⟨_, rfl⟩
    have hlength : front.length = 136 := by rw [hfront, packFields_length]; rfl
    rw [hsplit, ← hfront, List.getElem?_append_right (by omega), hlength, Nat.add_sub_cancel_left]
    exact hmarks n
  · simp (disch := decide) only [part_packFields_here, part_packFields_skip, Nat.reduceSub]
    omega
  · simp (disch := decide) only [part_packFields_here, part_packFields_skip, Nat.reduceSub]
    omega

/-- A level read back from its code: KEEP, or the level itself (Table 12-9). -/
theorem level_code {o : Option Nat} (h : ∀ l, o = some l → l ≤ 1000) :
    (if levelCode o = 65535 then none else some (min 1000 (levelCode o))) = o ∧ (levelCode o ≤ 1000 ∨ levelCode o = 65535) := by
  cases o with
  | none => exact ⟨rfl, .inr rfl⟩
  | some l =>
    have hl := h l rfl
    refine ⟨?_, .inl hl⟩
    rw [levelCode, if_neg (by omega), Nat.min_eq_right hl]

/-- SCENE reads back as written: the pointer and the scene of the numbers sent. -/
theorem scene_readsBack {s a : State} {pre : Bits} (hready : portReady s = true) (hunset : s.node.state = .unset)
    (hlegal : ConfigLegal a.cfg) (hpre : pre.length = 8) :
    ∃ t, exec (.sceneWrite (pre ++ shownBits 160 (contentsOf a .scene))) s = .next t ∧
      t.port.lastResult = .applied ∧ contentsOf t .scene = contentsOf a .scene := by
  obtain ⟨-, -, -, -, -, -, -, hscenes, -, -⟩ := hlegal
  have hscene : SceneLegal (a.cfg.scenes[a.port.scenePointer.val]) := hscenes a.port.scenePointer
  obtain ⟨hnumber, hlevels, hmarks, hon, hoff⟩ := sceneBits_parts a.port.scenePointer hscene
  have hbits : ∀ n : Fin 8, (pre ++ sceneBits a.port.scenePointer.val (a.cfg.scenes[a.port.scenePointer.val]))[144 + (7 - n.val)]? =
      some (a.cfg.scenes[a.port.scenePointer.val]).marks[n.val] := fun n => by
    have hplace : 144 + (7 - n.val) - pre.length = 136 + (7 - n.val) := by omega
    rw [List.getElem?_append_right (by omega), hplace]
    exact hmarks n
  obtain ⟨pdi, hpdi⟩ : ∃ pdi, pdi = pre ++ sceneBits a.port.scenePointer.val (a.cfg.scenes[a.port.scenePointer.val]) := ⟨_, rfl⟩
  rw [← hpdi] at hbits
  have hl : pdi.length = 168 := by
    have h := shownBits_length_of_configuration (w := .scene) rfl a
    rw [hpdi, List.length_append, hpre]
    exact congrArg (8 + ·) h
  have hpart : ∀ start width, natOfBits ((pdi.drop (8 + start)).take width) =
      part (sceneBits a.port.scenePointer.val (a.cfg.scenes[a.port.scenePointer.val])) start width := fun start width => by
    rw [hpdi]
    exact sentField_append hpre _ _ _
  have hk : natOfBits ((pdi.drop 8).take 8) = a.port.scenePointer.val := (hpart 0 8).trans hnumber
  obtain ⟨t, p, hexec, ht, -, hpointer, -, -, -, -, hwritten⟩ := sceneTransactionSetsPointerAndScene s pdi hready
  obtain ⟨-, hfields, hwon, hwoff, -, happlied⟩ := hwritten a.port.scenePointer (fun n => levelCode (a.cfg.scenes[a.port.scenePointer.val]).levels[n.val])
    (a.cfg.scenes[a.port.scenePointer.val]).onWidth (a.cfg.scenes[a.port.scenePointer.val]).offWidth hl hunset hk
    (fun n => by rw [← hlevels n, ← hpart, show 8 + (8 + 16 * n.val) = 16 + 16 * n.val by omega])
    (by rw [← hon, ← hpart]) (by rw [← hoff, ← hpart])
  obtain ⟨hlevelsLegal, ⟨honlow, -⟩, hofflow, -⟩ := hscene
  have hpointer' : p.scenePointer = a.port.scenePointer := Fin.ext ((hpointer (by omega) (by omega)).trans hk)
  have hwhole : t.cfg.scenes[a.port.scenePointer.val] = a.cfg.scenes[a.port.scenePointer.val] := by
    refine scene_ext (fun n => ?_) (fun n => ?_) ?_ ?_
    · rw [(hfields n).1]
      exact (level_code (hlevelsLegal n)).1
    · have hsent := (hfields n).2
      exact Option.some.inj (hsent.symm.trans (hbits n))
    · rw [hwon]
      omega
    · rw [hwoff]
      omega
  refine ⟨t, ?_, ?_, ?_⟩
  · rw [hpdi] at hexec
    exact hexec
  · rw [ht]
    exact happlied (fun n => (level_code (hlevelsLegal n)).2) (by omega) (by omega)
  · have hport : t.port.scenePointer = a.port.scenePointer := by
      rw [ht]
      exact hpointer'
    simp only [contentsOf, hport, Fin.getElem_fin, hwhole]

/-- The record put at one of four neighbours of a vector. -/
theorem ofFn_neighbours {α : Type} {n : Nat} {v : Vector α n} {i : Nat} {k : Fin n} {j : Fin 4} (f : Fin 4 → α)
    (hk : k.val = 4 * i + j.val) :
    (Vector.ofFn fun k : Fin n => if k.val / 4 = i then f (Fin.ofNat 4 k.val) else v[k.val])[k] = f j := by
  have hj : Fin.ofNat 4 k.val = j := Fin.ext (by rw [Fin.val_ofNat]; omega)
  have hdiv : k.val / 4 = i := by omega
  rw [Fin.getElem_fin, Vector.getElem_ofFn]
  simp only [hdiv, if_true, hj]

/-- Settles O27: every record a capture shows is sent as it stands and within its ranges, so that its write is applied as sent. -/
theorem configurationReadsBackAsWritten : Obligations.ConfigurationReadsBackAsWritten := by
  intro s a code w pre hready hunset hw hkind hlegal hmeas hpre
  have hl : (pre ++ shownBits w.length (contentsOf a w)).length = 8 + w.length := by
    rw [List.length_append, hpre, shownBits_length_of_configuration hkind]
  obtain ⟨hscene, hother⟩ := configurationWritesAreJudged s code w _ hready hw hkind hl
  by_cases hw' : w = .scene
  · rw [hscene hw']
    subst hw'
    exact scene_readsBack hready hunset hlegal hpre
  · obtain ⟨t, hexec, -, hjudged⟩ := hother hw'
    have hj := hjudged hunset
    obtain ⟨hnode, hchannels, hsource, hloops, hice, hfog, hcoefficients, -, hmap, hinputs⟩ := hlegal
    refine ⟨t, hexec, ?_⟩
    cases w with
    | ident | snap _ | peer _ | action _ => cases hkind
    | scene => exact absurd rfl hw'
    | node =>
      obtain ⟨hsent, hsame⟩ := node_sent hpre hnode
      obtain ⟨p, rfl, hr⟩ := RecordJudged.reads hj hsent hsame
      exact ⟨hr, rfl⟩
    | measure n =>
      obtain ⟨hsent, hsame⟩ := measure_sent hpre (hchannels n) a.meas.channels[n]
      obtain ⟨p, rfl, hr⟩ := RecordJudged.reads hj hsent hsame
      refine ⟨hr, ?_⟩
      simp only [contentsOf, State.setPort_cfg, State.setPort_meas, State.setCfg_cfg, State.setCfg_meas, Fin.getElem_fin,
        setAt_getElem_self, hmeas]
    | source =>
      obtain ⟨hsent, hsame⟩ := source_sent hpre hsource
      obtain ⟨p, rfl, hr⟩ := RecordJudged.reads hj (congrArg some hsent) hsame
      exact ⟨hr, rfl⟩
    | loop n =>
      obtain ⟨hsent, hsame⟩ := loop_sent hpre (hloops n)
      obtain ⟨p, rfl, hr⟩ := RecordJudged.reads hj hsent hsame
      refine ⟨hr, ?_⟩
      simp only [contentsOf, State.setPort_cfg, State.setCfg_cfg, Fin.getElem_fin, setAt_getElem_self]
    | ice =>
      obtain ⟨hsent, hsame⟩ := ice_sent hpre hice
      obtain ⟨p, rfl, hr⟩ := RecordJudged.reads hj (congrArg some hsent) hsame
      exact ⟨hr, rfl⟩
    | fog =>
      obtain ⟨hsent, hsame⟩ := fog_sent hpre hfog
      obtain ⟨p, rfl, hr⟩ := RecordJudged.reads hj (congrArg some hsent) hsame
      exact ⟨hr, rfl⟩
    | light n =>
      obtain ⟨p, rfl, hr⟩ := RecordJudged.reads hj (congrArg some (light_sent hpre (hcoefficients n)))
        (Nat.min_eq_right (hcoefficients n))
      refine ⟨hr, ?_⟩
      simp only [contentsOf, State.setPort_cfg, State.setCfg_cfg, Fin.getElem_fin, setAt_getElem_self]
    | cueIn n =>
      obtain ⟨hsent, hsame⟩ := cueIn_sent hpre (hinputs n)
      obtain ⟨p, rfl, hr⟩ := RecordJudged.reads hj hsent hsame
      refine ⟨hr, ?_⟩
      simp only [contentsOf, State.setPort_cfg, State.setCfg_cfg, Fin.getElem_fin, setAt_getElem_self]
    | cueMap i =>
      obtain ⟨p, rfl, hr, -⟩ := hj.2 (fun j => a.cfg.cueMap[cueMapAt i j]) (cueMap_sent hpre hmap i)
      refine ⟨hr, ?_⟩
      simp only [contentsOf, State.setPort_cfg, State.setCfg_cfg, cueMapBits,
        fun j => ofFn_neighbours (k := cueMapAt i j) (v := s.cfg.cueMap) (fun j => a.cfg.cueMap[cueMapAt i j]) rfl]
    | pins i =>
      obtain ⟨p, rfl, hr, -⟩ := hj.2 (fun j => a.cfg.pins[pinAt i j]) (pins_sent hpre a.cfg.pins i)
      refine ⟨hr, ?_⟩
      simp only [contentsOf, State.setPort_cfg, State.setCfg_cfg, pinsBits,
        fun j => ofFn_neighbours (k := pinAt i j) (v := s.cfg.pins) (fun j => a.cfg.pins[pinAt i j]) rfl]

end Sys2Proof.Machine

/-!
PROOFS. Measurement channels (O29 to O33): what one conversion of a channel does, case by case (R5 to R14).
-/
namespace Sys2Proof.Machine

/-! ### One conversion of a channel -/

theorem inRange_iff (raw : Counts) : inRange raw = true ↔ 3 ≤ raw.toNat ∧ raw.toNat ≤ 4092 := by
  simp [inRange]

/-- The trimmed counts (R8). -/
theorem trimmed_cast (c : ChannelLive) (k : ChannelConfig) (raw : Counts) :
    ((c.trimmed k raw : Nat) : Int) = max 0 (min 4095 ((raw.toNat : Int) + k.trim + c.zeroCorrection)) :=
  Int.toNat_of_nonneg (le_max_left _ _)

/-- A channel whose correction was rejected only keeps its last raw counts (R6). -/
theorem convert_of_rejected {c : ChannelLive} (h : c.zeroState = .outOfRange) (k : ChannelConfig) (raw : Counts) :
    c.convert k raw = { c with lastRaw := raw.toNat } := if_pos h

/-- An in-range conversion of a channel that is not FAILED (R9 to R12). -/
theorem convert_of_inRange {c : ChannelLive} {raw : Counts} (hz : c.zeroState ≠ .outOfRange) (hq : c.quality ≠ .failed)
    (hraw : inRange raw = true) (k : ChannelConfig) :
    c.convert k raw = ({ c with lastRaw := raw.toNat, outRun := 0 } : ChannelLive).enterSample k (c.trimmed k raw) := by
  rw [ChannelLive.convert, if_neg hz, if_pos hraw, if_neg hq]

/-- An in-range conversion of a FAILED channel before the eighth (R14). -/
theorem convert_of_failed {c : ChannelLive} {raw : Counts} (hz : c.zeroState ≠ .outOfRange) (hq : c.quality = .failed)
    (hraw : inRange raw = true) (hrun : c.inRun < 7) (k : ChannelConfig) :
    c.convert k raw = { c with lastRaw := raw.toNat, outRun := 0, inRun := c.inRun + 1 } := by
  rw [ChannelLive.convert, if_neg hz, if_pos hraw, if_pos hq]
  exact if_neg (by dsimp only; omega)

/-- The eighth in-range conversion of a FAILED channel (R14). -/
theorem convert_of_recovery {c : ChannelLive} {raw : Counts} (hz : c.zeroState ≠ .outOfRange) (hq : c.quality = .failed)
    (hraw : inRange raw = true) (hrun : c.inRun = 7) (k : ChannelConfig) :
    c.convert k raw = ({ c with lastRaw := raw.toNat, outRun := 0 } : ChannelLive).recover k (c.trimmed k raw) := by
  rw [ChannelLive.convert, if_neg hz, if_pos hraw, if_pos hq]
  exact if_pos (by dsimp only; omega)

/-- An out-of-range conversion (R13). -/
theorem convert_of_outOfRange {c : ChannelLive} {raw : Counts} (hz : c.zeroState ≠ .outOfRange)
    (hraw : raw.toNat ≤ 2 ∨ 4093 ≤ raw.toNat) (k : ChannelConfig) :
    c.convert k raw = ({ c with lastRaw := raw.toNat } : ChannelLive).outOfRange := by
  rw [ChannelLive.convert, if_neg hz, if_neg (by rw [inRange_iff]; omega)]

/-- A conversion due is the conversion of that channel (R7). -/
theorem exec_channelConversion {s : State} {n : Fin 12} (hop : operatingIn s.node.state = true)
    (hdue : s.meas.scanSchedule.head? = some n) (raw : Counts) :
    exec (.channelConversion n raw) s = .next (s.convertChannel n raw) := by
  refine takenIf_of_true ?_
  simp [conversionDue, show s.operating = true from hop, hdue]

/-- A conversion that makes no channel newly FAILED (R7). -/
theorem convertChannel_of_quality {s : State} {n : Fin 12} {raw : Counts} {c : ChannelLive}
    (hc : (s.meas.channels[n.val]).convert s.cfg.channels[n.val] raw = c)
    (hq : (s.meas.channels[n.val]).quality = .failed ∨ c.quality ≠ .failed) :
    s.convertChannel n raw = s.setMeas { s.meas with
      channels := setAt s.meas.channels n c, scanSchedule := s.meas.scanSchedule.tail } := by
  have hno : becomesFailed (s.meas.channels[n.val]) c = false := by
    rcases hq with hq | hq <;> simp [becomesFailed, hq]
  simp only [State.convertChannel, Fin.getElem_fin, hc, hno]
  rfl

/-- A conversion that makes its channel FAILED raises SENSOR_FAILED (R13). -/
theorem convertChannel_of_failing {s : State} {n : Fin 12} {raw : Counts} {c : ChannelLive}
    (hc : (s.meas.channels[n.val]).convert s.cfg.channels[n.val] raw = c)
    (hq : (s.meas.channels[n.val]).quality ≠ .failed) (hq' : c.quality = .failed) :
    s.convertChannel n raw = (s.setMeas { s.meas with
      channels := setAt s.meas.channels n c, scanSchedule := s.meas.scanSchedule.tail }).raise .sensorFailed := by
  have hyes : becomesFailed (s.meas.channels[n.val]) c = true := by
    simp [becomesFailed, hq, hq']
  simp only [State.convertChannel, Fin.getElem_fin, hc, hyes]
  rfl

/-- The ring after a sample enters it (R9). -/
theorem pushRing_four {α : Type} {ring : List α} (h : ring.length ≤ 4) (x : α) :
    pushRing 4 ring x = if ring.length < 4 then ring ++ [x] else ring.drop 1 ++ [x] := by
  rw [pushRing, List.length_append, List.length_singleton]
  split
  · rw [show ring.length + 1 - 4 = 0 by omega, List.drop_zero]
  · rw [show ring.length + 1 - 4 = 1 by omega, List.drop_append_of_le_length (by omega)]

/-- A sample that enters the ring leaves the channel GOOD or in DOUBT (R10, R11). -/
theorem enterSample_quality (c : ChannelLive) (k : ChannelConfig) (x : Nat) : (c.enterSample k x).quality ≠ .failed := by
  exact iteInduction (motive := (· ≠ Quality.failed)) (fun _ => by decide) fun _ => by decide

/-- Settles O29: the record that the conversion leaves is that of the sample entering the ring, and it is not FAILED. -/
theorem inRangeConversionFiltersAndJudges : Obligations.InRangeConversionFiltersAndJudges := by
  intro s n raw hop hdue hz hq hring hlow hhigh
  obtain ⟨c, hc⟩ : ∃ c, s.meas.channels[n.val] = c := ⟨_, rfl⟩
  obtain ⟨k, hk⟩ : ∃ k, s.cfg.channels[n.val] = k := ⟨_, rfl⟩
  have hconvert := convert_of_inRange hz hq ((inRange_iff raw).mpr ⟨hlow, hhigh⟩) s.cfg.channels[n.val]
  have hgood : ((s.meas.channels[n.val]).convert s.cfg.channels[n.val] raw).quality ≠ .failed := by
    rw [hconvert]
    exact enterSample_quality _ _ _
  have hexec := (exec_channelConversion hop hdue raw).trans (congrArg _ (convertChannel_of_quality rfl (.inr hgood)))
  rw [hconvert] at hexec
  rw [hc, hk] at hexec ⊢
  rw [hc] at hring
  refine ⟨_, c.trimmed k raw, _, ({ c with lastRaw := raw.toNat, outRun := 0 } : ChannelLive).steps k
    (valueOf k (filteredCounts (pushRing 4 c.ring (c.trimmed k raw)))), hexec, trimmed_cast c k raw, pushRing_four hring _, rfl,
    fun hkind => ?_, fun hkind => ?_, fun hkind => ?_, ?_, ?_, ?_, rfl, rfl, rfl, rfl, rfl⟩
  · simp only [ChannelLive.enterSample, valueOf, hkind, filteredCounts]
  · rcases hkind with hkind | hkind <;> simp only [ChannelLive.enterSample, valueOf, hkind, filteredCounts]
  · simp only [ChannelLive.enterSample, valueOf, hkind, filteredCounts]
  · simp [ChannelLive.steps, ChannelLive.enterSample, and_assoc]
  · simp only [ChannelLive.enterSample]
    split <;> rfl
  · simp only [ChannelLive.enterSample]
    split <;> simp_all

/-- An out-of-range conversion below the third (R13). -/
theorem outOfRange_of_low {c : ChannelLive} (h : c.outRun < 2) : c.outOfRange = { c with outRun := c.outRun + 1, inRun := 0 } := by
  have hrun : min 3 (c.outRun + 1) = c.outRun + 1 := by omega
  simp only [ChannelLive.outOfRange, hrun]
  exact if_neg fun hand => absurd hand.1 (by omega)

/-- The third out-of-range conversion in a row (R13). -/
theorem outOfRange_of_third {c : ChannelLive} (h : c.outRun = 2) (hq : c.quality ≠ .failed) :
    c.outOfRange = { c with outRun := 3, inRun := 0, quality := .failed, stepHold := 0 } := by
  have hrun : min 3 (c.outRun + 1) = 3 := by omega
  simp only [ChannelLive.outOfRange, hrun]
  exact if_pos ⟨trivial, hq⟩

/-- An out-of-range conversion of a FAILED channel (R13). -/
theorem outOfRange_of_failed {c : ChannelLive} (hq : c.quality = .failed) :
    c.outOfRange = { c with outRun := if c.outRun < 3 then c.outRun + 1 else 3, inRun := 0 } := by
  have hrun : min 3 (c.outRun + 1) = if c.outRun < 3 then c.outRun + 1 else 3 := by
    split <;> omega
  simp only [ChannelLive.outOfRange, hrun]
  exact if_neg fun hand => hand.2 hq

/-- Settles O30: below, at and after the third out-of-range conversion in a row. -/
theorem outOfRangeConversionFailsAtThree : Obligations.OutOfRangeConversionFailsAtThree := by
  intro s n raw c hop hdue hc hz hraw
  subst hc
  have hconvert := convert_of_outOfRange hz hraw s.cfg.channels[n.val]
  have hexec := exec_channelConversion hop hdue raw
  refine ⟨fun hq hrun => ?_, fun hq hrun => ?_, fun hq => ?_⟩
  · rw [outOfRange_of_low (by exact hrun)] at hconvert
    rw [hexec, convertChannel_of_quality hconvert (.inr hq)]
  · rw [outOfRange_of_third (by exact hrun) (by exact hq)] at hconvert
    refine ⟨by rw [hexec, convertChannel_of_failing hconvert hq rfl], ?_⟩
    rw [hexec]
    refine takenIf_of_true ?_
    rw [conversionDue, show s.operating = true from hop, hdue]
    simp only [Fin.getElem_fin, hconvert]
    simp [becomesFailed, hq]
  · rw [outOfRange_of_failed (by exact hq)] at hconvert
    rw [hexec, convertChannel_of_quality hconvert (.inl hq)]

/-- Settles O31: a rejected channel, the first seven in-range conversions of a FAILED one, and the eighth. -/
theorem failedChannelRecoversAtTheEighth : Obligations.FailedChannelRecoversAtTheEighth := by
  intro s n raw c hop hdue hc hq
  subst hc
  have hexec := exec_channelConversion hop hdue raw
  refine ⟨fun hz => ?_, fun hz hlow hhigh hrun => ?_, fun hz hlow hhigh hrun => ?_⟩
  · rw [hexec, convertChannel_of_quality (convert_of_rejected hz _ raw) (.inl hq)]
  · rw [hexec, convertChannel_of_quality (convert_of_failed hz hq ((inRange_iff raw).mpr ⟨hlow, hhigh⟩) hrun _) (.inl hq)]
  · have hconvert := convert_of_recovery hz hq ((inRange_iff raw).mpr ⟨hlow, hhigh⟩) hrun s.cfg.channels[n.val]
    have hrecovery : exec (.channelRecovery n raw) s = .next (s.convertChannel n raw) := by
      refine takenIf_of_true ?_
      rw [conversionDue, show s.operating = true from hop, hdue]
      simp only [Fin.getElem_fin, hconvert]
      simp [becomesFailed, hq, ChannelLive.recover]
    refine ⟨({ s.meas.channels[n.val] with lastRaw := raw.toNat, outRun := 0 } : ChannelLive).recover s.cfg.channels[n.val]
      ((s.meas.channels[n.val]).trimmed s.cfg.channels[n.val] raw), (s.meas.channels[n.val]).trimmed s.cfg.channels[n.val] raw, ?_, hexec.trans hrecovery.symm, trimmed_cast _ _ _, rfl, ?_,
      rfl, rfl, rfl, rfl, rfl⟩
    · rw [hrecovery, convertChannel_of_quality hconvert (.inl hq)]
    · simp [ChannelLive.recover, filteredCounts]

/-! ### Reference conversions -/

/-- A reference conversion before the eighth (R5). -/
theorem takeReference_of_few {c : ChannelLive} (h : c.zeroCounts.length < 7) (raw : Counts) :
    c.takeReference raw = { c with zeroCounts := c.zeroCounts ++ [raw.toNat] } := by
  simp only [ChannelLive.takeReference, List.length_append, List.length_singleton]
  exact if_pos (by omega)

/-- The eighth reference conversion, with an accepted correction (R5). -/
theorem takeReference_of_accepted {c : ChannelLive} (h : c.zeroCounts.length = 7) {raw : Counts}
    (hk : |zeroCorrectionOf (c.zeroCounts ++ [raw.toNat])| ≤ 200) :
    c.takeReference raw =
      { c with zeroCounts := [], zeroCorrection := zeroCorrectionOf (c.zeroCounts ++ [raw.toNat]), zeroState := .done } := by
  simp only [ChannelLive.takeReference, List.length_append, List.length_singleton]
  rw [if_neg (by omega), if_pos hk]

/-- The eighth reference conversion, with a rejected correction (R6). -/
theorem takeReference_of_rejected {c : ChannelLive} (h : c.zeroCounts.length = 7) {raw : Counts}
    (hk : 200 < |zeroCorrectionOf (c.zeroCounts ++ [raw.toNat])|) :
    c.takeReference raw = { c with
      zeroCounts := [], zeroCorrection := zeroCorrectionOf (c.zeroCounts ++ [raw.toNat]), zeroState := .outOfRange,
      quality := .failed } := by
  simp only [ChannelLive.takeReference, List.length_append, List.length_singleton]
  rw [if_neg (by omega), if_neg (by omega)]

/-- A correction is rejected at the eighth conversion (R6). -/
theorem rejectsZero_iff (c : ChannelLive) (raw : Counts) :
    c.rejectsZero raw = true ↔ 7 ≤ c.zeroCounts.length ∧ 200 < |zeroCorrectionOf (c.zeroCounts ++ [raw.toNat])| := by
  simp only [ChannelLive.rejectsZero, Bool.and_eq_true, decide_eq_true_eq, List.length_append, List.length_singleton]
  omega

/-- A reference conversion due is taken (R5). -/
theorem exec_zeroReferenceConversion {s : State} {n : Fin 12} (hstate : s.node.state = .starting)
    (hdue : s.meas.zeroSchedule.head? = some n) (raw : Counts) :
    exec (.zeroReferenceConversion n raw) s = .next (s.zeroConvert n raw) :=
  takenIf_of_true (by simp [zeroConversionDue, hstate, hdue])

theorem exec_zeroMeasurementComplete {s : State} {n : Fin 12} (hstate : s.node.state = .starting)
    (hdue : s.meas.zeroSchedule.head? = some n) (hlast : (s.meas.channels[n.val]).zeroCounts.length = 7) (raw : Counts) :
    exec (.zeroMeasurementComplete n raw) s = .next (s.zeroConvert n raw) :=
  takenIf_of_true (by simp [zeroConversionDue, hstate, hdue, hlast])

/-- A reference conversion with others still to be made (R5, R6). -/
theorem zeroConvert_of_more {s : State} {n : Fin 12} {raw : Counts} (h : s.meas.zeroSchedule.tail ≠ []) :
    s.zeroConvert n raw = (s.setMeas { s.meas with
      channels := setAt s.meas.channels n ((s.meas.channels[n.val]).takeReference raw)
      zeroSchedule := s.meas.zeroSchedule.tail }).raiseIf ((s.meas.channels[n.val]).rejectsZero raw) .zeroRange := by
  refine endStartingIfDone_of_measures ?_
  rw [raiseIf_eq]
  exact Bool.eq_false_iff.mpr fun hempty => h (List.isEmpty_iff.mp hempty)

/-- The last reference conversion of all ends STARTING (R156). -/
theorem zeroConvert_of_last {s : State} {n : Fin 12} {raw : Counts} (h : s.meas.zeroSchedule.tail = []) :
    s.zeroConvert n raw = ((s.setMeas { s.meas with
      channels := setAt s.meas.channels n ((s.meas.channels[n.val]).takeReference raw)
      zeroSchedule := s.meas.zeroSchedule.tail }).raiseIf ((s.meas.channels[n.val]).rejectsZero raw) .zeroRange).endStarting := by
  refine endStartingIfDone_of_none ?_
  rw [raiseIf_eq]
  exact List.isEmpty_iff.mpr h

/-- Settles O32: the first seven, the eighth with others to be made, and the last of all. -/
theorem referenceConversionsFormTheCorrection : Obligations.ReferenceConversionsFormTheCorrection := by
  intro s n raw c k hstate hdue hc hk
  subst hc
  have hcorrection : zeroCorrectionOf ((s.meas.channels[n.val]).zeroCounts ++ [raw.toNat]) = k := by
    rw [hk, zeroCorrectionOf, List.sum_append, List.sum_singleton]
  refine ⟨fun hfew hmore => ?_, fun hlast hmore hsmall => ?_, fun hlast hmore hbig => ?_, fun hlast => ?_, fun hlast hdone => ?_⟩
  · have hno : (s.meas.channels[n.val]).rejectsZero raw = false := by
      rw [Bool.eq_false_iff, ne_eq, rejectsZero_iff]
      omega
    rw [exec_zeroReferenceConversion hstate hdue, zeroConvert_of_more hmore, takeReference_of_few hfew, hno]
    rfl
  · have hno : (s.meas.channels[n.val]).rejectsZero raw = false := by
      rw [Bool.eq_false_iff, ne_eq, rejectsZero_iff, hcorrection]
      omega
    have htaken := takeReference_of_accepted hlast (by rw [hcorrection]; exact hsmall)
    rw [exec_zeroMeasurementComplete hstate hdue hlast, zeroConvert_of_more hmore, htaken, hno, hcorrection]
    rfl
  · have hyes : (s.meas.channels[n.val]).rejectsZero raw = true := by
      rw [rejectsZero_iff, hcorrection]
      omega
    have htaken := takeReference_of_rejected hlast (by rw [hcorrection]; exact hbig)
    rw [exec_zeroMeasurementComplete hstate hdue hlast, zeroConvert_of_more hmore, htaken, hyes, hcorrection]
    rfl
  · rw [exec_zeroReferenceConversion hstate hdue, exec_zeroMeasurementComplete hstate hdue hlast]
  · have hrejects : (s.meas.channels[n.val]).rejectsZero raw = decide (200 < |k|) := by
      rw [Bool.eq_iff_iff, rejectsZero_iff, hcorrection, decide_eq_true_eq]
      omega
    obtain ⟨u, hu⟩ : ∃ u, u = (s.setMeas { s.meas with
        channels := setAt s.meas.channels n ((s.meas.channels[n.val]).takeReference raw)
        zeroSchedule := s.meas.zeroSchedule.tail }) := ⟨_, rfl⟩
    have hcauses := raiseIf_after u (decide (200 < |k|)) .zeroRange
    refine ⟨_, by rw [exec_zeroMeasurementComplete hstate hdue hlast, zeroConvert_of_last hdone, hrejects, ← hu], ?_⟩
    rw [endStarting_eq]
    have hchannels : (u.raiseIf (decide (200 < |k|)) .zeroRange).meas.channels =
        setAt s.meas.channels n ((s.meas.channels[n.val]).takeReference raw) := by simp [hu]
    have hcfg : (u.raiseIf (decide (200 < |k|)) .zeroRange).cfg = s.cfg := by simp [hu]
    refine ⟨rfl, fun m => ?_, rfl, rfl, rfl, rfl, fun hsmall => ?_, fun hbig => ?_, ?_, by simp [hu], by simp [hu], by simp [hu],
      by simp [hu], by simp [hu], hcfg, fun i => ?_⟩
    · rw [hcfg]
      exact (usedChannels_spec s.cfg).2 m
    · rw [takeReference_of_accepted hlast (by rw [hcorrection]; exact hsmall), hcorrection] at hchannels
      exact hchannels
    · rw [takeReference_of_rejected hlast (by rw [hcorrection]; exact hbig), hcorrection] at hchannels
      exact hchannels
    · simp only [decide_eq_true_eq] at hcauses
      rw [hu] at hcauses ⊢
      exact hcauses
    · rw [hcfg]
      dsimp only
      rw [mapAt_getElem]
      rfl

/-- Settles O33: the scan's schedule is the used channels in ascending index. -/
theorem scanSchedulesUsedChannels : Obligations.ScanSchedulesUsedChannels := by
  intro s hop hdone
  obtain ⟨hsorted, hused⟩ := usedChannels_spec s.cfg
  refine ⟨usedChannels s.cfg, takenIf_of_true ?_, hsorted, hused⟩
  rw [show s.operating = true from hop, hdone]
  rfl

end Sys2Proof.Machine

/-!
PROOFS. The period expiry (O34 to O36): the evaluation, the phase-split check, and what follows them by the node state (R17, R18).
-/
namespace Sys2Proof.Machine

/-! ### The three steps -/

@[simp] theorem foldl_writeDuty_dimmers (l : List (Fin 4)) (s : State) :
    (l.foldl State.writeDuty s).gens.dimmers = s.gens.dimmers := by
  refine foldl_keeps (fun t : State => t.gens.dimmers) _ (fun t n => ?_) l s
  unfold State.writeDuty
  split <;> rfl

/-- A share evaluation writes no dimmer generator (R106). -/
@[simp] theorem evaluateShare_dimmers (s : State) : s.evaluateShare.gens.dimmers = s.gens.dimmers := by
  rw [State.evaluateShare, State.writeDuties, foldl_writeDuty_dimmers]
  simp [State.computeGrants, State.computeDemands]

@[simp] theorem checkSplit_peers (s : State) : s.checkSplit.peers = s.peers.map (PeerEntry.splitStep s.light.phase) := by
  simp [State.checkSplit]

/-- Each passage from 2 to 3 raises PHASE_SPLIT (R33). -/
theorem evaluated_causes (s : State) : CausesAfter s s.evaluateShare.checkSplit 11
    (s.peers.filter (splitReaches3 s.light.phase)).length := by
  have h := raiseTimes_after (s.evaluateShare.setPeers (s.peers.map (PeerEntry.splitStep s.light.phase))) .phaseSplit
    (s.peers.filter (splitReaches3 s.light.phase)).length
  have hcheck : s.evaluateShare.checkSplit = (s.evaluateShare.setPeers (s.peers.map (PeerEntry.splitStep s.light.phase))).raiseTimes
      .phaseSplit (s.peers.filter (splitReaches3 s.light.phase)).length := by
    simp only [State.checkSplit, evaluateShare_frame]
  rw [hcheck]
  exact h.congr (by simp) rfl

/-- In RUN the STATUS enters its place with the next sequence (R19, R46). -/
theorem compose_of_run {s : State} (h : s.node.state = .run) : s.compose = s.setLine { s.line with
    ownSequence := (s.line.ownSequence + 1) % 16
    queue := { s.line.queue with
      statusPlace := some { frame := .status (composedStatus s ((s.line.ownSequence + 1) % 16)), attempt := 0 } } } := by
  have hmay : mayTransmitIn s.node.state = true := by rw [h]; rfl
  rw [State.compose, State.offer, State.setLine_node, if_pos hmay]
  rfl

theorem finishExpiry_of_run {s : State} (h : s.node.state = .run) : s.finishExpiry = s.compose := by
  simp only [State.finishExpiry, h]

/-- The first expiry in LISTEN is counted (R18). -/
theorem finishExpiry_of_first {s : State} (h : s.node.state = .listen) (hcount : s.comp.expiryCount = 0) :
    s.finishExpiry = s.setComp { s.comp with expiryCount := 1 } := by
  simp only [State.finishExpiry, h, State.countExpiry, hcount]
  rfl

/-- The second expiry in LISTEN enters RUN and composes (R18, R20). -/
theorem finishExpiry_of_second {s : State} (h : s.node.state = .listen) (hcount : s.comp.expiryCount = 1) :
    s.finishExpiry = ((s.setNodeState .run).setComp { expiryCount := 2, first := true }).compose := by
  simp only [State.finishExpiry, h, State.countExpiry, hcount]
  rfl

theorem finishExpiry_of_mute {s : State} {k : MuteKind} (h : s.node.state = .mute k) : s.finishExpiry = s := by
  simp only [State.finishExpiry, h]

/-- A STATUS composed raises no cause (R17). -/
@[simp] theorem finishExpiry_causes (s : State) : s.finishExpiry.node.causes = s.node.causes := by
  have hcompose : ∀ u : State, u.compose.node.causes = u.node.causes := fun u => by
    simp only [State.compose, State.offer]
    (repeat' split) <;> rfl
  unfold State.finishExpiry
  split
  · exact hcompose s
  · split
    · exact hcompose _
    · rfl
  · rfl

theorem Generators.eq_of_dimmers {g h : Generators} (hd : g.dimmers = h.dimmers) : g = { h with valves := g.valves } := by
  rw [← hd]

theorem LineInterface.eq_of_kept {l m : LineInterface} (h : l.stage = m.stage ∧ l.access = m.access ∧ l.score = m.score ∧
    l.degraded = m.degraded ∧ l.cueSerial = m.cueSerial) : l = { m with ownSequence := l.ownSequence, queue := l.queue } := by
  obtain ⟨hstage, haccess, hscore, hdegraded, hserial⟩ := h
  rw [← hstage, ← haccess, ← hscore, ← hdegraded, ← hserial]

theorem NodeControl.eq_of_kept {n m : NodeControl} (h : n.lastReset = m.lastReset ∧ n.startFault = m.startFault ∧
    n.startFaultIndex = m.startFaultIndex) : n = { m with state := n.state, causes := n.causes } := by
  obtain ⟨hreset, hfault, hindex⟩ := h
  rw [← hreset, ← hfault, ← hindex]

/-- What the whole expiry reaches (R17, R18). -/
theorem expirePeriod_reaches (s : State) :
    s.expirePeriod = (((((s.setPeers s.expirePeriod.peers).setComp s.expirePeriod.comp).setLine { s.line with
      ownSequence := s.expirePeriod.line.ownSequence, queue := s.expirePeriod.line.queue }).setHeat s.expirePeriod.heat).setGens
      { s.gens with valves := s.expirePeriod.gens.valves }).setNode
        { s.node with state := s.expirePeriod.node.state, causes := s.expirePeriod.node.causes } := by
  obtain ⟨t, ht⟩ : ∃ t, t = s.expirePeriod := ⟨_, rfl⟩
  have hblocks : t.cfg = s.cfg ∧ t.meas = s.meas ∧ t.ice = s.ice ∧ t.fog = s.fog ∧ t.light = s.light ∧ t.pins = s.pins ∧
      t.port = s.port ∧ t.resetHeld = s.resetHeld ∧ t.freeCount = s.freeCount ∧ t.pending = s.pending := by
    simp [ht, State.expirePeriod]
  obtain ⟨hcfg, hmeas, hice, hfog, hlight, hpins, hport, hheld, hcount, hpending⟩ := hblocks
  have hgens := Generators.eq_of_dimmers (g := t.gens) (h := s.gens) (by simp [ht, State.expirePeriod])
  have hline := LineInterface.eq_of_kept (l := t.line) (m := s.line) (by simp [ht, State.expirePeriod])
  have hnode := NodeControl.eq_of_kept (n := t.node) (m := s.node) (by simp [ht, State.expirePeriod])
  rw [← ht]
  exact State.eq_of_fields ⟨hcfg, hmeas, rfl, rfl, hline, hice, hfog, rfl, hlight, hgens, hpins, hnode, hport, hheld, hcount, hpending⟩

theorem exec_statusPeriodExpiry {s : State} (hop : operatingIn s.node.state = true) :
    exec .statusPeriodExpiry s = .next s.expirePeriod := takenIf_of_true hop

/-- The demand records of a node by its configuration and its loops (R21, R100). -/
theorem ownDemands_eq {s u : State} (hcfg : u.cfg = s.cfg) : ownDemands u = (List.finRange 4).filterMap fun n =>
    (s.cfg.loops[n.val]).cls.map fun cls =>
      { cls := cls, loop := n, amount := (u.heat.loops[n.val]).demand,
        doubt := decide ((u.heat.loops[n.val]).kind ≠ .computed) } := by
  have hdoubt : ∀ k : DemandKind, kindDoubt k = decide (k ≠ .computed) := fun k => by cases k <;> rfl
  unfold ownDemands
  congr 1
  funext n
  simp only [demandRecord, hcfg, hdoubt, Fin.getElem_fin]

/-- A node publishes RADIANT where some lighting channel has a coefficient above 0 (R21, R112). -/
theorem publishesRadiant_iff (cfg : Configuration) : publishesRadiant cfg = true ↔ ∃ n : Fin 8, 0 < cfg.coefficients[n.val] := by
  simp [publishesRadiant]

/-- Settles O34: the expiry's last step, by the node state, on what the first two leave of the node. -/
theorem periodExpiryComposesInRun : Obligations.PeriodExpiryComposesInRun := by
  intro s hop
  obtain ⟨u, hu⟩ : ∃ u, u = s.evaluateShare.checkSplit := ⟨_, rfl⟩
  have hexpire : s.expirePeriod = u.finishExpiry := by rw [hu]; rfl
  have hcfg : u.cfg = s.cfg := by simp [hu]
  have hline : u.line = s.line := by simp [hu]
  have hcomp : u.comp = s.comp := by simp [hu]
  have hstate : u.node.state = s.node.state := by simp [hu]
  refine ⟨s.expirePeriod, exec_statusPeriodExpiry hop, fun hrun => ?_, fun hlisten hcount => ?_, fun k hmute => ?_,
    expirePeriod_reaches s⟩
  · rw [hexpire, finishExpiry_of_run (hstate.trans hrun), compose_of_run (hstate.trans hrun), hline]
    refine ⟨hstate.trans hrun, rfl, hcomp, composedStatus u ((s.line.ownSequence + 1) % 16), rfl, rfl, ?_, ?_, ?_, ?_, ?_, ?_, rfl, rfl,
      ?_, fun hsome => ?_, fun hnone => ?_, ownDemands_eq hcfg⟩
    · simp [composedStatus, hu]
    · simp [composedStatus, hu]
    · simp [composedStatus, hu, IceLive.flood]
    · simp [composedStatus, hu]
    · simp [composedStatus, hu]
    · simp [composedStatus, hu]
    · simp [composedStatus, hu, hasIce]
    · have hlight : u.light = s.light := by simp [hu]
      simp only [composedStatus, hcfg, (publishesRadiant_iff s.cfg).mpr hsome, if_true, hlight]
    · have hno : ¬publishesRadiant s.cfg = true := by
        rw [publishesRadiant_iff]
        rintro ⟨n, hn⟩
        rw [hnone n] at hn
        exact Nat.lt_irrefl 0 hn
      simp only [composedStatus, hcfg, hno]
      rfl
  · rw [hexpire, finishExpiry_of_first (hstate.trans hlisten) (by rw [hcomp]; exact hcount), hcomp]
    exact ⟨hstate.trans hlisten, rfl, hline⟩
  · rw [hexpire, finishExpiry_of_mute (hstate.trans hmute)]
    exact ⟨hstate.trans hmute, hcomp, hline⟩

/-- Settles O35: the second expiry in LISTEN enters RUN, with the grants of LISTEN. -/
theorem secondExpiryEntersRun : Obligations.SecondExpiryEntersRun := by
  intro s hlisten hcount
  obtain ⟨u, hu⟩ : ∃ u, u = s.evaluateShare.checkSplit := ⟨_, rfl⟩
  have hexpire : s.expirePeriod = u.finishExpiry := by rw [hu]; rfl
  have hline : u.line = s.line := by simp [hu]
  have hcomp : u.comp = s.comp := by simp [hu]
  have hstate : u.node.state = s.node.state := by simp [hu]
  have hop : operatingIn s.node.state = true := by rw [hlisten]; rfl
  have henter : exec .enterRun s = .next s.expirePeriod := takenIf_of_true (by simp [hlisten, hcount])
  obtain ⟨v, hv⟩ : ∃ v, v = (u.setNodeState .run).setComp { expiryCount := 2, first := true } := ⟨_, rfl⟩
  have hcompose : s.expirePeriod = v.setLine { s.line with
      ownSequence := (s.line.ownSequence + 1) % 16
      queue := { s.line.queue with
        statusPlace := some { frame := .status (composedStatus v ((s.line.ownSequence + 1) % 16)), attempt := 0 } } } := by
    have hvline : v.line = s.line := by rw [hv]; exact hline
    rw [hexpire, finishExpiry_of_second (hstate.trans hlisten) (by rw [hcomp]; exact hcount), ← hv,
      compose_of_run (by rw [hv]; rfl), hvline]
  refine ⟨by rw [henter, exec_statusPeriodExpiry hop], s.expirePeriod, composedStatus v ((s.line.ownSequence + 1) % 16), henter,
    ?_, ?_, by rw [hcompose]; rfl, by rw [hcompose]; rfl, by rw [hv]; rfl, rfl, fun n => ?_, expirePeriod_reaches s⟩
  · rw [hcompose, hv]
    rfl
  · rw [hcompose, hv]
    rfl
  · have hheat : s.expirePeriod.heat = s.evaluateShare.heat := by simp [State.expirePeriod]
    obtain ⟨-, hgrant⟩ := evaluateShare_demand_grant s n
    obtain ⟨-, hoff⟩ := ownGrant_le s.computeOffer.computeDemands n
    rw [hheat, hgrant]
    refine hoff fun hrun => ?_
    have hkept : s.computeOffer.computeDemands.node.state = s.node.state := by simp
    rw [hkept, hlisten] at hrun
    cases hrun

/-- The passage of a split counter from 2 to 3 (R33). -/
theorem splitReaches3_iff (p : Phase) (e : PeerEntry) :
    splitReaches3 p e = true ↔ e.splitCounter = 2 ∧ e.stale = false ∧ e.phase ≠ p := by
  have hstep : (e.splitStep p).splitCounter = 3 ↔
      (e.stale = false ∧ e.phase ≠ p) ∧ 2 ≤ e.splitCounter := by
    simp only [PeerEntry.splitStep, Bool.not_eq_true']
    split
    · rename_i h
      exact ⟨fun hthree => ⟨h, by omega⟩, fun ⟨_, htwo⟩ => by omega⟩
    · rename_i h
      simp [h]
  simp only [splitReaches3, Bool.and_eq_true, decide_eq_true_eq, hstep]
  constructor
  · rintro ⟨htwo, ⟨hfresh, hphase⟩, -⟩
    exact ⟨htwo, hfresh, hphase⟩
  · rintro ⟨htwo, hfresh, hphase⟩
    exact ⟨htwo, ⟨hfresh, hphase⟩, htwo.ge⟩

/-- Settles O36: the counters by the check itself, and the row where the entry at its address makes the passage. -/
theorem phaseSplitCountsFreshDifferences : Obligations.PhaseSplitCountsFreshDifferences := by
  intro s hop
  have hexpire : s.expirePeriod = s.evaluateShare.checkSplit.finishExpiry := rfl
  refine ⟨⟨s.expirePeriod, exec_statusPeriodExpiry hop, ?_, ?_⟩, fun e he hlegal htwo hfresh hphase => ?_⟩
  · have hpeers : s.expirePeriod.peers = s.peers.map (PeerEntry.splitStep s.light.phase) := by
      simp [State.expirePeriod]
    rw [hpeers]
    refine List.map_congr_left fun e _ => ?_
    simp only [PeerEntry.splitStep, Bool.not_eq_true']
  · have hfilter : (s.peers.filter (splitReaches3 s.light.phase)) =
        s.peers.filter fun e => e.splitCounter = 2 ∧ e.stale = false ∧ e.phase ≠ s.light.phase :=
      List.filter_congr fun e _ => by rw [Bool.eq_iff_iff, splitReaches3_iff, decide_eq_true_eq]
    rw [← hfilter]
    exact (evaluated_causes s).congr rfl (by rw [hexpire, finishExpiry_causes])
  · rw [exec_statusPeriodExpiry hop]
    refine takenIf_of_true ?_
    rw [entryAt_of_mem hlegal he, Option.any_some, (splitReaches3_iff s.light.phase e).mpr ⟨htwo, hfresh, hphase⟩, Bool.and_true]
    exact hop

end Sys2Proof.Machine

/-!
PROOFS. The peer table (O37 to O39): ageing, a received STATUS and a received FOG (R24 to R31).
-/
namespace Sys2Proof.Machine

/-! ### Reports to Fog Guard -/

/-- A report touches Fog Guard alone (R31). -/
theorem reportPeers_eq (s : State) : s.reportPeers = s.setFog s.reportPeers.fog := rfl

/-- What Fog Guard re-derives from a table rests on the own records that it reads (R78, R85). -/
theorem FogRederived.congr {s s' t t' : State} (h : FogRederived s t) (hfog : s'.fog = s.fog) (hice : s'.ice = s.ice) (hcfg : s'.cfg = s.cfg)
    (hpeers : t'.peers = t.peers) (hfog' : t'.fog = t.fog) : FogRederived s' t' := by
  unfold FogRederived at *
  rw [hfog, hice, hcfg, hpeers, hfog']
  exact h

/-! ### Ageing -/

/-- An entry is LOST at an ageing step where its age passes eight periods (R29). -/
theorem aged_lost_iff {own : Nat} {e : PeerEntry} (h : EntryLegal own e) :
    e.aged.lost = true ↔ 8 * (25 * (e.period + 1)) < e.age + 1 := by
  obtain ⟨-, hperiod, -, hage, -⟩ := h
  rw [PeerEntry.lost, decide_eq_true_eq]
  simp only [PeerEntry.aged, PeerEntry.periodSteps]
  omega

/-- An entry aged, below the end of the count (R28). -/
theorem aged_eq {own : Nat} {e : PeerEntry} (h : EntryLegal own e) (hkept : e.age + 1 ≤ 8 * (25 * (e.period + 1))) :
    e.aged = { e with age := e.age + 1, stale := decide (3 * (25 * (e.period + 1)) < e.age + 1) } := by
  obtain ⟨-, hperiod, -⟩ := h
  have hage : min 65535 (e.age + 1) = e.age + 1 := by omega
  simp only [PeerEntry.aged, PeerEntry.periodSteps, hage]

/-- The table after an ageing step of a legal one (R28, R29). -/
theorem agePeers_eq {own : Nat} {peers : List PeerEntry} (h : ∀ e ∈ peers, EntryLegal own e) :
    agePeers peers = (peers.filter fun e => e.age + 1 ≤ 8 * (25 * (e.period + 1))).map fun e =>
      { e with age := e.age + 1, stale := decide (3 * (25 * (e.period + 1)) < e.age + 1) } := by
  have hfilter : (peers.map PeerEntry.aged).filter (fun e => !e.lost) = (peers.filter fun e => !e.aged.lost).map PeerEntry.aged :=
    List.filter_map ..
  have hsame : peers.filter (fun e => !e.aged.lost) = peers.filter fun e => e.age + 1 ≤ 8 * (25 * (e.period + 1)) :=
    List.filter_congr fun e he => by
      rw [Bool.eq_iff_iff, Bool.not_eq_true', ← Bool.not_eq_true, aged_lost_iff (h e he), decide_eq_true_eq, Nat.not_lt]
  rw [agePeers, hfilter, hsame]
  refine List.map_congr_left fun e he => ?_
  obtain ⟨hmem, hkept⟩ := List.mem_filter.mp he
  exact aged_eq (h e hmem) (of_decide_eq_true hkept)

/-- The entry of an address after an ageing step (R28, R29). -/
theorem entryAt_agePeers {s : State} (h : PeersLegal s) {e : PeerEntry} (he : e ∈ s.peers) :
    entryAt (agePeers s.peers) e.address = if e.aged.lost then none else some e.aged := by
  have hentry : ∀ x ∈ agePeers s.peers, x.address = e.address → x = e.aged ∧ e.aged.lost = false := fun x hx ha => by
    obtain ⟨hmem, hkept⟩ := List.mem_filter.mp hx
    obtain ⟨y, hy, rfl⟩ := List.mem_map.mp hmem
    obtain rfl := entry_unique h hy he ha
    exact ⟨rfl, by simpa using hkept⟩
  cases hl : e.aged.lost with
  | true =>
    rw [if_pos rfl, entryAt_eq_none]
    intro x hx ha
    rw [(hentry x hx ha).2] at hl
    cases hl
  | false =>
    rw [if_neg (by decide)]
    cases hfound : entryAt (agePeers s.peers) e.address with
    | none =>
      have hmem : e.aged ∈ agePeers s.peers := List.mem_filter.mpr ⟨List.mem_map_of_mem he, by rw [hl]; rfl⟩
      exact absurd rfl (entryAt_eq_none.mp hfound e.aged hmem)
    | some x =>
      obtain ⟨hx, ha⟩ := entryAt_eq_some hfound
      rw [(hentry x hx ha).1]

theorem exec_ageingStep {s : State} (hop : operatingIn s.node.state = true) : exec .ageingStep s = .next s.agePeerTable :=
  takenIf_of_true hop

/-- Settles O37: the table's form after an ageing step, and the entry of an address at its thresholds. -/
theorem ageingStaleAndLost : Obligations.AgeingStaleAndLost := by
  intro s hop hlegal
  have hentries := hlegal.table.2.2
  refine ⟨⟨s.agePeerTable, exec_ageingStep hop, ?_, ?_⟩, fun e he hfresh hage => ?_, fun e he hage => ?_⟩
  · rw [← agePeers_eq hentries]
    rfl
  · exact (reportPeers_rederived (s.setPeers (agePeers s.peers))).congr rfl rfl rfl rfl rfl
  · rw [exec_ageingStep hop]
    refine takenIf_of_true ?_
    have hstale : e.aged.stale = true ∧ e.aged.lost = false := by
      obtain ⟨-, hperiod, -⟩ := hentries e he
      have haged : e.aged.stale = true ↔ 3 * (25 * (e.period + 1)) < min 65535 (e.age + 1) := decide_eq_true_iff
      rw [← Bool.not_eq_true, aged_lost_iff (hentries e he), haged]
      omega
    rw [becomesStale, entryAt_of_mem hlegal he, entryAt_agePeers hlegal he, hstale.2, if_neg (by decide), Option.any_some, Option.any_some,
      hstale.1, hfresh]
    simpa [State.operating] using hop
  · rw [exec_ageingStep hop]
    refine takenIf_of_true ?_
    have hlost : e.aged.lost = true := by
      rw [aged_lost_iff (hentries e he), hage]
      exact Nat.lt_succ_self _
    rw [becomesLost, entryAt_of_mem hlegal he, entryAt_agePeers hlegal he, hlost]
    simpa [State.operating] using hop

/-! ### Reception of another station's frame -/

/-- A frame of another station is delivered after the fall of the score (R52, R53). -/
theorem receiveValid_of_other {s : State} {f : Frame} (h : f.sender.toNat ≠ s.cfg.node.address) :
    s.receiveValid f = (s.scoreDown.setAccess .closed).deliver f := by
  unfold State.receiveValid bearsOwnAddress
  rw [decide_eq_false h]
  rfl

/-- The row of a valid frame's kind takes it as an ordinary reception (R50, R52). -/
theorem receivesKind_of_canReceive {s : State} {f : Frame} (hcan : canReceive s = true) (hv : f.valid = true) :
    receivesKind s f f.kind = true := by
  simp [receivesKind, hcan, hv]

/-- What a frame of another station is delivered to: the score fallen by 1, and the next reception waiting for a release (R36, R53). -/
theorem receiveValid_delivers {s : State} {f : Frame} (h : f.sender.toNat ≠ s.cfg.node.address) :
    ∃ u, s.receiveValid f = u.deliver f ∧ ScoredGood s u ∧
      u = s.setLine { s.line with score := u.line.score, degraded := u.line.degraded, access := .closed } :=
  ⟨s.scoreDown.setAccess .closed, receiveValid_of_other h, scoreDown_good s, rfl⟩

/-! ### STATUS -/

/-- The entries of other addresses after a STATUS (R25 to R27). -/
theorem mem_updateEntry_of_ne {peers : List PeerEntry} {a : Nat} {g : PeerEntry → PeerEntry} (hg : ∀ e, (g e).address = e.address)
    {x : PeerEntry} (hx : x.address ≠ a) : x ∈ updateEntry peers a g ↔ x ∈ peers := by
  unfold updateEntry
  rw [List.mem_map]
  constructor
  · rintro ⟨e, he, rfl⟩
    by_cases ha : e.address = a
    · rw [if_pos ha] at hx
      exact absurd ((hg e).trans ha) hx
    · rwa [if_neg ha]
  · intro he
    exact ⟨x, he, if_neg hx⟩

theorem mem_updateEntry_of_mem {peers : List PeerEntry} {a : Nat} {g : PeerEntry → PeerEntry} {e : PeerEntry} (he : e ∈ peers)
    (ha : e.address = a) : g e ∈ updateEntry peers a g :=
  List.mem_map.mpr ⟨e, he, if_pos ha⟩

/-- A STATUS leaves the entries of other addresses (R25 to R27). -/
theorem mem_peersAfterStatus {peers : List PeerEntry} {a : Nat} {c : StatusContent} {x : PeerEntry} (hx : x.address ≠ a) :
    x ∈ peersAfterStatus peers a c ↔ x ∈ peers := by
  unfold peersAfterStatus
  split
  · split
    · rw [mem_insertEntry]
      refine ⟨fun h => h.resolve_left ?_, .inr⟩
      rintro rfl
      exact hx rfl
    · exact Iff.rfl
  · split
    · exact mem_updateEntry_of_ne (g := fun e => e.rewrite c) (fun e => rfl) hx
    · split
      · exact Iff.rfl
      · exact mem_updateEntry_of_ne (g := fun e => e.publish c) (fun e => rfl) hx

/-- A STATUS delivered reports the table it leaves (R25, R31). -/
theorem deliverStatus_of_some {s : State} {f : Frame} {c : StatusContent} (hc : f.readStatus = some c) :
    s.deliverStatus f = ((s.setPeers (peersAfterStatus s.peers f.sender.toNat c)).raiseIf
      (statusOverflows s.peers f.sender.toNat) .peerOverflow).reportPeers := by
  simp only [State.deliverStatus, hc]

/-- Settles O38: the fall of the score, and the table, the cause and Fog Guard's report that the content calls for. -/
theorem statusReceivedStoresOrIgnores : Obligations.StatusReceivedStoresOrIgnores := by
  intro s f hlegal hcan hv hk hother
  obtain ⟨u, hdelivered, hscored, hblocks⟩ := receiveValid_delivers hother
  have hexec : exec (.statusReceived f) s = .next (u.deliverStatus f) := by
    have hreceives := receivesKind_of_canReceive hcan hv
    rw [hk] at hreceives
    refine (takenIf_of_true hreceives).trans (congrArg _ ?_)
    rw [hdelivered]
    simp only [State.deliver, hk]
  have hpeers : u.peers = s.peers := by rw [hblocks]; rfl
  have hnode : u.node = s.node := by rw [hblocks]; rfl
  have hfog : u.fog = s.fog := by rw [hblocks]; rfl
  have hcfg : u.cfg = s.cfg := by rw [hblocks]; rfl
  have hice : u.ice = s.ice := by rw [hblocks]; rfl
  cases hc : f.readStatus with
  | none =>
    have hsame : u.deliverStatus f = u := by simp only [State.deliverStatus, hc]
    rw [hsame] at hexec
    refine ⟨u, hexec, hscored, ?_, fun _ => ⟨hpeers, hnode, hfog⟩, nofun⟩
    rw [hpeers, hnode, hfog]
    exact hblocks
  | some c =>
    obtain ⟨t, ht⟩ : ∃ t, t = u.deliverStatus f := ⟨_, rfl⟩
    obtain ⟨v, hv⟩ : ∃ v, v = (u.setPeers (peersAfterStatus u.peers f.sender.toNat c)).raiseIf
        (statusOverflows u.peers f.sender.toNat) .peerOverflow := ⟨_, rfl⟩
    have htv : t = v.reportPeers := by rw [ht, deliverStatus_of_some hc, hv]
    have htable : t.peers = peersAfterStatus s.peers f.sender.toNat c := by
      rw [htv, ← hpeers]
      simp [hv]
    have hreported := reportPeers_rederived v
    rw [← htv] at hreported
    have hvfog : v.fog = s.fog := by simp [hv, hfog]
    have hvice : v.ice = s.ice := by simp [hv, hice]
    have hvcfg : v.cfg = s.cfg := by simp [hv, hcfg]
    have hline : t.line = u.line := by simp [htv, hv]
    have hcauses : CausesAfter s t 5 (if statusOverflows s.peers f.sender.toNat then 1 else 0) := by
      have h := raiseIf_after (u.setPeers (peersAfterStatus u.peers f.sender.toNat c)) (statusOverflows s.peers f.sender.toNat)
        .peerOverflow
      rw [hpeers] at hv h
      rw [← hv] at h
      exact h.congr (by rw [← hnode]; rfl) (by rw [htv]; simp)
    have hoverflow : statusOverflows s.peers f.sender.toNat = true ↔
        (∀ e ∈ s.peers, e.address ≠ f.sender.toNat) ∧ s.peers.length = 31 := by
      have hmost := hlegal.table.1
      rw [statusOverflows, Bool.and_eq_true, Option.isNone_iff_eq_none, entryAt_eq_none, decide_eq_true_eq]
      exact and_congr_right fun _ => by omega
    simp only [hoverflow] at hcauses
    rw [← ht] at hexec
    refine ⟨t, hexec, hscored.congr ⟨rfl, rfl⟩ ⟨by rw [hline], by rw [hline]⟩, ?_, nofun, fun c' hc' => ?_⟩
    · have hvnode : v = (u.setPeers t.peers).setNode { s.node with causes := t.node.causes } := by
        have h := raiseIf_eq (u.setPeers (peersAfterStatus u.peers f.sender.toNat c)) (statusOverflows u.peers f.sender.toNat)
          .peerOverflow
        have htnode : t.node = v.node := by rw [htv]; simp
        rw [← hv] at h
        rw [htable, htnode, ← hnode, ← hpeers]
        exact h
      rw [hline]
      calc t = v.setFog t.fog := by rw [htv]; rfl
        _ = ((u.setPeers t.peers).setNode { s.node with causes := t.node.causes }).setFog t.fog := congrArg (State.setFog · t.fog) hvnode
        _ = _ := congrArg (fun x : State => ((x.setPeers t.peers).setNode { s.node with causes := t.node.causes }).setFog t.fog) hblocks
    · cases hc'
      refine ⟨hreported.congr hvfog.symm hvice.symm hvcfg.symm rfl rfl, hcauses, fun e' he' ha => ?_, fun e he ha => ?_,
        fun hnone hroom => ?_, fun hnone hfull => ?_, fun e he ha => ⟨fun hfirst hsame => ?_, fun hnew => ?_⟩⟩
      · rw [htable] at he'
        exact (mem_peersAfterStatus ha).mp he'
      · rw [htable]
        exact (mem_peersAfterStatus ha).mpr he
      · have hentry : t.peers = insertEntry (newEntry f.sender.toNat c) s.peers := by
          rw [htable, peersAfterStatus, entryAt_eq_none.mpr hnone]
          exact if_pos hroom
        refine ⟨newEntry f.sender.toNat c, by rw [hentry, mem_insertEntry]; exact .inl rfl, ?_⟩
        exact ⟨rfl, rfl, rfl, rfl, rfl, rfl, rfl, rfl, rfl, rfl, rfl, rfl, rfl, rfl, rfl, rfl, rfl⟩
      · rw [htable, peersAfterStatus, entryAt_eq_none.mpr hnone]
        exact if_neg (by omega)
      · have hentry : entryAt s.peers f.sender.toNat = some e := ha ▸ entryAt_of_mem hlegal he
        rw [htable, peersAfterStatus, hentry]
        dsimp only
        rw [if_neg (by rw [hfirst]; decide), if_pos hsame]
      · have hentry : entryAt s.peers f.sender.toNat = some e := ha ▸ entryAt_of_mem hlegal he
        by_cases hfirst : c.first = true
        · have hrewrite : t.peers = updateEntry s.peers f.sender.toNat fun e => e.rewrite c := by
            rw [htable, peersAfterStatus, hentry]
            exact if_pos hfirst
          refine ⟨e.rewrite c, by rw [hrewrite]; exact mem_updateEntry_of_mem (g := fun e => e.rewrite c) he ha, ?_⟩
          refine ⟨rfl, rfl, rfl, rfl, rfl, rfl, rfl, rfl, rfl, rfl, rfl, rfl, rfl, rfl, fun _ => ⟨rfl, rfl, rfl⟩, fun hno => ?_⟩
          rw [hno] at hfirst
          cases hfirst
        · have hpublish : t.peers = updateEntry s.peers f.sender.toNat fun e => e.publish c := by
            rw [htable, peersAfterStatus, hentry]
            dsimp only
            rw [if_neg hfirst, if_neg (hnew.resolve_left hfirst)]
          refine ⟨e.publish c, by rw [hpublish]; exact mem_updateEntry_of_mem (g := fun e => e.publish c) he ha, ?_⟩
          exact ⟨rfl, rfl, rfl, rfl, rfl, rfl, rfl, rfl, rfl, rfl, rfl, rfl, rfl, rfl, fun hyes => absurd hyes hfirst,
            fun _ => ⟨rfl, rfl, rfl⟩⟩

/-! ### FOG -/

/-- A FOG of neither listed element leaves the table (R52). -/
theorem map_id_of_neither {peers : List PeerEntry} {p q : PeerEntry → Prop} [DecidablePred p] [DecidablePred q]
    {g h : PeerEntry → PeerEntry} (hp : ∀ e, ¬p e) (hq : ∀ e, ¬q e) :
    peers.map (fun e => if p e then g e else if q e then h e else e) = peers := by
  simp only [hp, hq, if_false, List.map_id']

/-- Settles O39: by the element, the mark of the sender's entry and Fog Guard's report, or nothing beyond the fall of the score. -/
theorem fogReceivedMarksTheSender : Obligations.FogReceivedMarksTheSender := by
  intro s f hcan hv hk hother
  obtain ⟨u, hdelivered, hscored, hblocks⟩ := receiveValid_delivers hother
  have hexec : exec (.fogReceived f) s = .next (u.deliverFog f) := by
    have hreceives := receivesKind_of_canReceive hcan hv
    rw [hk] at hreceives
    refine (takenIf_of_true hreceives).trans (congrArg _ ?_)
    rw [hdelivered]
    simp only [State.deliver, hk]
  have hpeers : u.peers = s.peers := by rw [hblocks]; rfl
  have hfog : u.fog = s.fog := by rw [hblocks]; rfl
  have hcfg : u.cfg = s.cfg := by rw [hblocks]; rfl
  have hice : u.ice = s.ice := by rw [hblocks]; rfl
  have hmarked : ∀ x : FogLevel, ∀ t : State, t = (u.setPeers (updateEntry s.peers f.sender.toNat fun e => { e with fog := x })).reportPeers →
      ScoredGood s t ∧ t = ((s.setLine { s.line with score := t.line.score, degraded := t.line.degraded, access := .closed }).setPeers
        t.peers).setFog t.fog ∧ FogRederived s t := fun x t ht => by
    have hline : t.line = u.line := by rw [ht]; rfl
    have hreported := reportPeers_rederived (u.setPeers (updateEntry s.peers f.sender.toNat fun e => { e with fog := x }))
    rw [← ht] at hreported
    refine ⟨hscored.congr ⟨rfl, rfl⟩ ⟨by rw [hline], by rw [hline]⟩, ?_, hreported.congr hfog.symm hice.symm hcfg.symm rfl rfl⟩
    rw [hline]
    calc t = (u.setPeers t.peers).setFog t.fog := by rw [ht]; rfl
      _ = _ := congrArg (fun x : State => (x.setPeers t.peers).setFog t.fog) hblocks
  by_cases hon : f.dataAt 0 = 1
  · have hdeliver : u.deliverFog f = (u.setPeers (updateEntry s.peers f.sender.toNat fun e => { e with fog := .fog })).reportPeers := by
      simp only [State.deliverFog, Frame.readFog, hon, hpeers]
      rfl
    obtain ⟨hs, hreach, hrederived⟩ := hmarked .fog _ hdeliver
    refine ⟨u.deliverFog f, hexec, hs, hreach, ?_, fun _ => hrederived, fun hno => absurd hon hno⟩
    rw [hdeliver]
    show updateEntry s.peers f.sender.toNat _ = _
    simp [updateEntry, hon]
  · by_cases hoff : f.dataAt 0 = 2
    · have hdeliver : u.deliverFog f = (u.setPeers (updateEntry s.peers f.sender.toNat fun e => { e with fog := .act })).reportPeers := by
        simp only [State.deliverFog, Frame.readFog, hoff, hpeers]
        rfl
      obtain ⟨hs, hreach, hrederived⟩ := hmarked .act _ hdeliver
      refine ⟨u.deliverFog f, hexec, hs, hreach, ?_, fun _ => hrederived, fun _ hno => absurd hoff hno⟩
      rw [hdeliver]
      show updateEntry s.peers f.sender.toNat _ = _
      simp [updateEntry, hoff]
    · have hnone : f.readFog = none := by
        unfold Frame.readFog
        split
        · rename_i h
          exact absurd h hon
        · rename_i h
          exact absurd h hoff
        · rfl
      have hdeliver : u.deliverFog f = u := by simp only [State.deliverFog, hnone]
      rw [hdeliver] at hexec
      refine ⟨u, hexec, hscored, ?_, ?_, fun h => (h.elim hon hoff).elim, fun _ _ => hfog⟩
      · rw [hpeers, hfog]
        exact hblocks
      · rw [hpeers]
        exact (map_id_of_neither (fun e h => hon h.2) fun e h => hoff h.2).symm

end Sys2Proof.Machine

/-!
PROOFS. Cues received and pended, fade steps and cue inputs (O40, O41, O42, O44): the serial window, replays and RECALL, the
pending list served, and the samples of the cue inputs (R117 to R129, R147 to R149).
-/
namespace Sys2Proof.Machine

/-! ### The serial window -/

/-- The window of a cue against a last cue serial (R118). -/
def InWindow (c : Cue) (l : Nat) : Prop :=
  1 ≤ ((c.serial : Int) - (l : Int)) % 256 ∧ ((c.serial : Int) - (l : Int)) % 256 ≤ 127

/-- The serial window against a legal table (R118). -/
theorem serialPasses_iff {s : State} (h : PeersLegal s) (c : Cue) :
    serialPasses s.peers c = true ↔
      ∀ e ∈ s.peers, e.address = c.origin → ∀ l, e.lastCueSerial = some l → InWindow c l := by
  unfold serialPasses InWindow
  cases hentry : entryAt s.peers c.origin with
  | none =>
    have hno := entryAt_eq_none.mp hentry
    simp only [Option.bind_none, true_iff]
    exact fun e he ha => absurd ha (hno e he)
  | some e =>
    obtain ⟨he, ha⟩ := entryAt_eq_some hentry
    have honly : ∀ x ∈ s.peers, x.address = c.origin → x = e := fun x hx hxa => entry_unique h hx he (hxa.trans ha.symm)
    rw [Option.bind_some]
    cases hlast : e.lastCueSerial with
    | none =>
      simp only [true_iff]
      intro x hx hxa l hl
      rw [honly x hx hxa, hlast] at hl
      cases hl
    | some l =>
      simp only [Bool.and_eq_true, decide_eq_true_eq]
      constructor
      · intro hw x hx hxa k hk
        rw [honly x hx hxa, hlast] at hk
        cases hk
        exact hw
      · exact fun hall => hall e he ha l hlast

/-! ### Received cues -/

/-- A cue acting reaches the lighting, the generators and the causes (R119, R120). -/
theorem actCue_reaches (s : State) (c : Cue) :
    s.actCue c = ((s.setLight (s.actCue c).light).setGens (s.actCue c).gens).setNode
      { s.node with causes := (s.actCue c).node.causes } := by
  obtain ⟨-, hnode⟩ := actCue_causes s c
  apply State.eq_of_fields
  simpa using hnode

/-- A cue accepted on a table that its serial passes, and not waiting already (R118, R119). -/
theorem acceptCue_of_pass {s : State} {c : Cue} (hpass : serialPasses s.peers c = true) (hnew : pendingHolds s.light.pendingCues c = false) :
    s.acceptCue c = (s.setPeers (updateEntry s.peers c.origin fun e => { e with lastCueSerial := some c.serial })).actCue c := by
  simp only [State.acceptCue, hpass, if_true, State.setPeers_light, hnew]
  rfl

/-- A cue accepted that waits already goes no further than its serial (R118). -/
theorem acceptCue_of_waiting {s : State} {c : Cue} (hpass : serialPasses s.peers c = true) (hold : pendingHolds s.light.pendingCues c = true) :
    s.acceptCue c = s.setPeers (updateEntry s.peers c.origin fun e => { e with lastCueSerial := some c.serial }) := by
  simp only [State.acceptCue, hpass, if_true, State.setPeers_light, hold]

/-- A cue outside the serial window is discarded (R118). -/
theorem acceptCue_of_discarded {s : State} {c : Cue} (h : ¬serialPasses s.peers c = true) : s.acceptCue c = s := if_neg h

/-- A take leaves the node record (R121, R122). -/
theorem actCue_node_of_taken {s : State} {c : Cue} (h : c.number = 255 ∨ c.wait = 0) : (s.actCue c).node = s.node := by
  unfold State.actCue stopCue
  by_cases hn : c.number = 255
  · rw [if_pos hn]
    simp
  · rw [if_neg hn, if_pos (h.resolve_left hn)]
    simp

/-- A cue other than STOP with a wait is offered to the pending list (R119, R123). -/
theorem actCue_of_wait {s : State} {c : Cue} (hn : c.number ≠ 255) (hw : 0 < c.wait) : s.actCue c = s.offerPending c := by
  unfold State.actCue stopCue
  rw [if_neg hn, if_neg (Nat.pos_iff_ne_zero.mp hw)]

/-- A list with room raises no cause (R120). -/
theorem offerPending_node_of_room {s : State} {c : Cue} (h : s.light.pendingCues.length < 4) : (s.offerPending c).node = s.node := by
  unfold State.offerPending
  rw [if_neg (Nat.not_le.mpr h)]
  split <;> rfl

/-- Settles O40: by the checks of R117, the serial window and the pending list, the cue is discarded, ignored or acts. -/
theorem cueReceivedIsJudgedAndActs : Obligations.CueReceivedIsJudgedAndActs := by
  intro s f hlegal hcan hv hk hmark hother
  obtain ⟨u, hdelivered, hscored, hblocks⟩ := receiveValid_delivers hother
  have hexec : exec (.cueReceived f) s = .next (u.deliverCue f) := by
    have hreceives := receivesKind_of_canReceive hcan hv
    rw [hk] at hreceives
    refine (takenIf_of_true (b := receivesKind s f .cue && !f.replayMark) (by rw [hreceives, hmark]; rfl)).trans (congrArg _ ?_)
    rw [hdelivered]
    simp only [State.deliver, hk]
  have hpeers : u.peers = s.peers := by rw [hblocks]; rfl
  have hnode : u.node = s.node := by rw [hblocks]; rfl
  have hlight : u.light = s.light := by rw [hblocks]; rfl
  have hgens : u.gens = s.gens := by rw [hblocks]; rfl
  have hcfg : u.cfg = s.cfg := by rw [hblocks]; rfl
  have hsame : u = (((((s.setLine { s.line with score := u.line.score, degraded := u.line.degraded, access := .closed }).setPeers
      u.peers).setLight u.light).setGens u.gens).setNode { s.node with causes := u.node.causes }) := by
    rw [hpeers, hnode, hlight, hgens]
    exact hblocks
  cases hc : f.readCue with
  | none =>
    have hstands : u.deliverCue f = u := by simp only [State.deliverCue, hc]
    rw [hstands] at hexec
    exact ⟨u, hexec, hscored, hsame, fun _ => ⟨hpeers, hlight, hgens, hnode⟩, nofun⟩
  | some c =>
    have haccept : u.deliverCue f = u.acceptCue c := by simp only [State.deliverCue, hc, hmark, Bool.false_eq_true, if_false]
    rw [haccept] at hexec
    by_cases hpass : serialPasses s.peers c = true
    · obtain ⟨v, hv⟩ : ∃ v, v = u.setPeers (updateEntry u.peers c.origin fun e => { e with lastCueSerial := some c.serial }) := ⟨_, rfl⟩
      have hvpeers : v.peers = s.peers.map fun e => if e.address = c.origin then { e with lastCueSerial := some c.serial } else e := by
        rw [hv, ← hpeers]
        rfl
      have hvlight : v.light = s.light := by rw [hv]; exact hlight
      have hvgens : v.gens = s.gens := by rw [hv]; exact hgens
      have hvnode : v.node = s.node := by rw [hv]; exact hnode
      have hvcfg : v.cfg = s.cfg := by rw [hv]; exact hcfg
      have hvline : v.line = u.line := by rw [hv]; rfl
      have hwindow := (serialPasses_iff hlegal c).mp hpass
      have hpass' : serialPasses u.peers c = true := by rw [hpeers]; exact hpass
      by_cases hold : pendingHolds s.light.pendingCues c = true
      · rw [acceptCue_of_waiting hpass' (by rw [hlight]; exact hold), ← hv] at hexec
        refine ⟨v, hexec, hscored.congr ⟨rfl, rfl⟩ ⟨by rw [hvline], by rw [hvline]⟩, ?_, nofun, fun c' hc' => ?_⟩
        · rw [hvline, hvlight, hvgens, hvnode]
          calc v = u.setPeers v.peers := by rw [hv]; rfl
            _ = _ := congrArg (fun x : State => x.setPeers v.peers) hblocks
        · cases hc'
          refine ⟨fun ⟨e, he, ha, l, hl, hout⟩ => absurd (hwindow e he ha l hl) hout, fun _ => ⟨hvpeers, fun _ => ⟨hvlight, hvgens, hvnode⟩,
            fun hnone => ?_⟩⟩
          obtain ⟨p, hp, horigin, hserial⟩ := (pendingHolds_iff _ _).mp hold
          exact (hnone p hp).elim (absurd horigin) (absurd hserial)
      · obtain ⟨t, ht⟩ : ∃ t, t = v.actCue c := ⟨_, rfl⟩
        rw [acceptCue_of_pass hpass' (by rw [hlight]; exact Bool.not_eq_true _ ▸ hold), ← hv, ← ht] at hexec
        have hline : t.line = u.line := by rw [ht, ← hvline]; simp
        obtain ⟨hcauses, htnode⟩ := actCue_causes v c
        rw [← ht, hvlight] at hcauses
        rw [← ht, hvnode] at htnode
        refine ⟨t, hexec, hscored.congr ⟨rfl, rfl⟩ ⟨by rw [hline], by rw [hline]⟩, ?_, nofun, fun c' hc' => ?_⟩
        · have hreaches := actCue_reaches v c
          have htpeers : t.peers = v.peers := by rw [ht]; simp
          rw [← ht, hvnode] at hreaches
          rw [hline, htpeers]
          calc t = (((u.setPeers v.peers).setLight t.light).setGens t.gens).setNode { s.node with causes := t.node.causes } := by
                refine hreaches.trans ?_
                rw [hv]
                rfl
            _ = _ := congrArg (fun x : State => (((x.setPeers v.peers).setLight t.light).setGens t.gens).setNode
                { s.node with causes := t.node.causes }) hblocks
        · cases hc'
          refine ⟨fun ⟨e, he, ha, l, hl, hout⟩ => absurd (hwindow e he ha l hl) hout, fun _ => ⟨by rw [ht, ← hvpeers]; simp, fun hwaits => ?_,
            fun hnone => ⟨fun hnow => ?_, fun hn hw hroom => ?_, fun hn hw hfull => ?_⟩⟩⟩
          · exact absurd ((pendingHolds_iff _ _).mpr hwaits) hold
          · exact ⟨(actCue_taken v c hnow).congr hvcfg.symm hvlight.symm hvgens.symm hvnode.symm (by rw [ht]) (by rw [ht]),
              by rw [ht, actCue_node_of_taken hnow, hvnode]⟩
          · have hoffer := actCue_of_wait (s := v) hn hw
            rw [hoffer] at ht
            obtain ⟨⟨-, hoffered⟩, -⟩ := offerPending_offered v c
            rw [← ht, hvlight] at hoffered
            refine ⟨by rw [ht, ← hvgens]; simp, ?_, (hoffered hroom).2 hnone⟩
            rw [ht, offerPending_node_of_room (by rw [hvlight]; exact hroom), hvnode]
          · have hoffer := actCue_of_wait (s := v) hn hw
            rw [hoffer] at ht
            obtain ⟨⟨hstands, -⟩, -⟩ := offerPending_offered v c
            rw [← ht, hvlight] at hstands
            rw [if_pos ⟨hn, hw, hfull⟩] at hcauses
            exact ⟨hstands hfull, by rw [ht, ← hvgens]; simp, hcauses.congr (by rw [hvnode]) rfl⟩
    · rw [acceptCue_of_discarded (by rw [hpeers]; exact hpass)] at hexec
      refine ⟨u, hexec, hscored, hsame, nofun, fun c' hc' => ?_⟩
      cases hc'
      exact ⟨fun _ => ⟨hpeers, hlight, hgens, hnode⟩, fun hall => absurd ((serialPasses_iff hlegal c).mpr hall) hpass⟩

/-! ### Replays and RECALL -/

/-- A queue set after a reception (R36, R53). -/
theorem setQueue_received {s u : State} {score : Nat} {degraded : Bool}
    (h : u = s.setLine { s.line with score := score, degraded := degraded, access := .closed }) (q : TxQueue) :
    u.setLine { u.line with queue := q } =
      s.setLine { s.line with score := score, degraded := degraded, access := .closed, queue := q } := by
  subst h
  rfl

/-- The node's own waiting replay withdrawn (R129). -/
def State.withdrawReplay (s : State) : State := s.setLine { s.line with queue := { s.line.queue with replayPlace := none } }

/-- A replay in LISTEN with the take marker clear is taken (R129). -/
theorem acceptReplay_taken {s : State} (c : Cue) (hlisten : s.node.state = .listen) (hclear : s.light.takeMarker = false) :
    CueTaken s.withdrawReplay (s.acceptReplay c) (recordOfCue c) ∧
      s.acceptReplay c = (s.withdrawReplay.setLight (s.acceptReplay c).light).setGens (s.acceptReplay c).gens := by
  by_cases hn : c.number = 255
  · have htake : s.acceptReplay c = s.withdrawReplay.takeStop (recordOfCue c) := (if_pos ⟨hlisten, hclear⟩).trans (if_pos hn)
    rw [htake]
    refine ⟨takeStop_taken _ _ hn, ?_⟩
    apply State.eq_of_fields
    simp
  · have htake : s.acceptReplay c = s.withdrawReplay.takeCue (recordOfCue c) := (if_pos ⟨hlisten, hclear⟩).trans (if_neg hn)
    rw [htake]
    refine ⟨takeCue_taken _ _ hn, ?_⟩
    apply State.eq_of_fields
    simp

/-- Any other replay withdraws the own one alone (R129). -/
theorem acceptReplay_of_not {s : State} (c : Cue) (h : ¬(s.node.state = .listen ∧ s.light.takeMarker = false)) :
    s.acceptReplay c = s.withdrawReplay := if_neg h

/-- A replay offered where none waits and none is in the stage (R46). -/
theorem offer_replay_of_free {s : State} {c : Cue} (hrun : s.node.state = .run) (hplace : s.line.queue.replayPlace = none)
    (hstage : stagedReplay s.line.stage = false) : s.offer (.replay c) =
      s.setLine { s.line with queue := { s.line.queue with replayPlace := some (Queued.mk (.replay c) 0) } } := by
  unfold State.offer
  rw [if_pos (by rw [hrun]; rfl), if_pos (by simp [LineInterface.accepts, hplace, hstage])]
  rfl

/-- A replay refused leaves everything (R46). -/
theorem offer_replay_of_held {s : State} {c : Cue} (h : s.line.queue.replayPlace ≠ none ∨ stagedReplay s.line.stage = true) :
    s.offer (.replay c) = s := by
  unfold State.offer
  have hrefused : ¬s.line.accepts (.replay c) = true := by
    rw [LineInterface.accepts, Bool.and_eq_true, Option.isNone_iff_eq_none, Bool.not_eq_true']
    rintro ⟨hplace, hstage⟩
    rw [hstage] at h
    exact h.elim (absurd hplace) nofun
  rw [if_neg hrefused]
  split <;> rfl

theorem stagedReplay_iff {stage : Option Staged} :
    stagedReplay stage = true ↔ ∃ st r, stage = some st ∧ st.queued.frame = .replay r := by
  cases stage with
  | none => simp [stagedReplay]
  | some st => cases hf : st.queued.frame <;> simp [stagedReplay, hf]

/-- A RECALL is answered with the current cue in RUN alone (R128). -/
theorem deliverRecall_of_answered {s : State} {c : CueRecord} (hrun : s.node.state = .run) (hc : s.light.current = some c) :
    s.deliverRecall = s.offer (.replay c.toReplay) := by
  simp only [State.deliverRecall, hrun, hc]

theorem deliverRecall_of_silent {s : State} (h : s.node.state ≠ .run ∨ s.light.current = none) : s.deliverRecall = s := by
  unfold State.deliverRecall
  split
  · rename_i c hrun hc
    rw [hc] at h
    exact (h.elim (absurd hrun) nofun)
  · rfl

/-- Settles O41: the delivered replay or RECALL, on the state the reception leaves. -/
theorem replayAndRecallReceived : Obligations.ReplayAndRecallReceived := by
  intro s f hcan hv hother
  obtain ⟨u, hdelivered, hscored, hblocks⟩ := receiveValid_delivers hother
  have hreceives := receivesKind_of_canReceive hcan hv
  have hnode : u.node = s.node := by rw [hblocks]; rfl
  have hlight : u.light = s.light := by rw [hblocks]; rfl
  have hgens : u.gens = s.gens := by rw [hblocks]; rfl
  have hcfg : u.cfg = s.cfg := by rw [hblocks]; rfl
  have hqueue : u.line.queue = s.line.queue := by rw [hblocks]; rfl
  have hstage : u.line.stage = s.line.stage := by rw [hblocks]; rfl
  refine ⟨fun hk hmark => ?_, fun hk => ?_⟩
  · have hexec : exec (.replayReceived f) s = .next (u.deliverCue f) := by
      rw [hk] at hreceives
      refine (takenIf_of_true (b := receivesKind s f .cue && f.replayMark) (by rw [hreceives, hmark]; rfl)).trans (congrArg _ ?_)
      rw [hdelivered]
      simp only [State.deliver, hk]
    cases hc : f.readCue with
    | none =>
      have hstands : u.deliverCue f = u := by simp only [State.deliverCue, hc]
      rw [hstands] at hexec
      refine ⟨u, hexec, hscored, ?_, fun _ => ⟨hqueue, hlight, hgens⟩, nofun⟩
      rw [hqueue, hlight, hgens]
      exact hblocks
    | some c =>
      obtain ⟨t, ht⟩ : ∃ t, t = u.acceptReplay c := ⟨_, rfl⟩
      have haccept : u.deliverCue f = t := by simp only [State.deliverCue, hc, hmark, if_true, ht]
      rw [haccept] at hexec
      have hwithdrawn : u.withdrawReplay = s.setLine { s.line with
          score := u.line.score, degraded := u.line.degraded, access := .closed, queue := { s.line.queue with replayPlace := none } } := by
        rw [State.withdrawReplay, hqueue]
        exact setQueue_received hblocks _
      have hreaches : t = (u.withdrawReplay.setLight t.light).setGens t.gens := by
        by_cases htake : u.node.state = .listen ∧ u.light.takeMarker = false
        · have h := (acceptReplay_taken (s := u) c htake.1 htake.2).2
          rwa [← ht] at h
        · rw [acceptReplay_of_not c htake] at ht
          rw [ht]
          rfl
      have hline : t.line = u.withdrawReplay.line := by rw [hreaches]; rfl
      have hscore : t.line.score = u.line.score ∧ t.line.degraded = u.line.degraded := by rw [hline]; exact ⟨rfl, rfl⟩
      have htqueue : t.line.queue = { s.line.queue with replayPlace := none } := by rw [hline, ← hqueue]; rfl
      refine ⟨t, hexec, hscored.congr ⟨rfl, rfl⟩ hscore, ?_, nofun, fun c' hc' => ?_⟩
      · rw [hscore.1, hscore.2, htqueue]
        exact hreaches.trans (congrArg (fun x : State => (x.setLight t.light).setGens t.gens) hwithdrawn)
      · cases hc'
        refine ⟨htqueue, fun hlisten hclear => ?_, fun hno => ?_⟩
        · have h := (acceptReplay_taken (s := u) c (by rw [hnode]; exact hlisten) (by rw [hlight]; exact hclear)).1
          rw [← ht] at h
          exact h.congr hcfg.symm hlight.symm hgens.symm hnode.symm rfl rfl
        · have hrefused : ¬(u.node.state = .listen ∧ u.light.takeMarker = false) := by
            rw [hnode, hlight]
            rintro ⟨hlisten, hclear⟩
            rw [hclear] at hno
            exact hno.elim (absurd hlisten) nofun
          rw [ht, acceptReplay_of_not c hrefused]
          exact ⟨hlight, hgens⟩
  · obtain ⟨t, ht⟩ : ∃ t, t = u.deliverRecall := ⟨_, rfl⟩
    have hexec : exec (.recallReceived f) s = .next t := by
      rw [hk] at hreceives
      refine (takenIf_of_true hreceives).trans (congrArg _ ?_)
      rw [hdelivered]
      simp only [State.deliver, hk, ht]
    have hanswered : ∀ c, s.node.state = .run → s.light.current = some c → s.line.queue.replayPlace = none →
        stagedReplay s.line.stage = false → t = u.setLine { u.line with
          queue := { s.line.queue with replayPlace := some (Queued.mk (.replay c.toReplay) 0) } } := fun c hrun hcur hplace hfree => by
      rw [ht, deliverRecall_of_answered (by rw [hnode]; exact hrun) (by rw [hlight]; exact hcur),
        offer_replay_of_free (by rw [hnode]; exact hrun) (by rw [hqueue]; exact hplace) (by rw [hstage]; exact hfree), hqueue]
    have hsilent : (s.node.state ≠ .run ∨ s.light.current = none ∨ s.line.queue.replayPlace ≠ none ∨ stagedReplay s.line.stage = true) →
        t = u := fun h => by
      rw [ht]
      by_cases hno : u.node.state ≠ .run ∨ u.light.current = none
      · exact deliverRecall_of_silent hno
      · obtain ⟨hrun, hcur⟩ := not_or.mp hno
        obtain ⟨c, hc⟩ := Option.ne_none_iff_exists'.mp hcur
        rw [deliverRecall_of_answered (not_not.mp hrun) hc]
        refine offer_replay_of_held ?_
        rw [hqueue, hstage]
        rw [hnode] at hrun
        rw [hlight] at hcur
        exact (h.resolve_left hrun).resolve_left hcur
    by_cases hone : (∃ c, s.node.state = .run ∧ s.light.current = some c ∧ s.line.queue.replayPlace = none) ∧
        stagedReplay s.line.stage = false
    · obtain ⟨⟨c, hrun, hcur, hplace⟩, hfree⟩ := hone
      have heq := hanswered c hrun hcur hplace hfree
      have htqueue : t.line.queue =
          { s.line.queue with replayPlace := some (Queued.mk (.replay c.toReplay) 0) } := by rw [heq]; rfl
      have hscore : t.line.score = u.line.score ∧ t.line.degraded = u.line.degraded := by rw [heq]; exact ⟨rfl, rfl⟩
      refine ⟨t, hexec, hscored.congr ⟨rfl, rfl⟩ hscore, ?_, fun c' _ hcur' _ _ => ?_, fun hno => ?_⟩
      · rw [hscore.1, hscore.2, htqueue]
        exact heq.trans (setQueue_received hblocks _)
      · rw [hcur] at hcur'
        cases hcur'
        exact htqueue
      · rw [← stagedReplay_iff, hfree, hrun, hcur, hplace] at hno
        simp at hno
    · have hstands : t = u := hsilent (by
        rw [← Bool.not_eq_false]
        by_contra hall
        obtain ⟨hrun, hcur, hplace, hfree⟩ : s.node.state = .run ∧ s.light.current ≠ none ∧ s.line.queue.replayPlace = none ∧
            stagedReplay s.line.stage = false := by simpa only [not_or, not_not] using hall
        obtain ⟨c, hc⟩ := Option.ne_none_iff_exists'.mp hcur
        exact hone ⟨⟨c, hrun, hc, hplace⟩, hfree⟩)
      rw [hstands] at hexec
      refine ⟨u, hexec, hscored, ?_, fun c hrun hcur hplace hfree => ?_, fun _ => hqueue⟩
      · rw [hqueue]
        exact hblocks
      · refine absurd ⟨⟨c, hrun, hcur, hplace⟩, ?_⟩ hone
        rw [← Bool.not_eq_true, stagedReplay_iff]
        rintro ⟨st, r, hst, hr⟩
        exact hfree st r hst hr

/-! ### Fade steps -/

/-- The pending list left by a fade step's count (R120). -/
theorem pendingAfter_eq (l : List PendingCue) :
    pendingAfter l = (l.filter fun p => decide (1 < p.remaining)).map fun p => { p with remaining := p.remaining - 1 } := by
  rw [pendingAfter, List.filter_map]
  refine congrArg _ (List.filter_congr fun p _ => ?_)
  rw [Function.comp_apply, decide_eq_decide]
  show p.remaining - 1 ≠ 0 ↔ 1 < p.remaining
  omega

/-- The pending cues that a fade step takes (R120). -/
theorem pendingExpired_eq (l : List PendingCue) : pendingExpired l = l.filter fun p => decide (p.remaining ≤ 1) := by
  refine List.filter_congr fun p _ => ?_
  rw [decide_eq_decide]
  omega

/-- The list served: its expired cues are taken one after another, with the rest counted down (R120, R121). -/
theorem servePending_inOrder {s : State} (h : ∀ p ∈ s.light.pendingCues, p.number ≠ 255) :
    TakenInOrder ((s.light.pendingCues.filter fun p => decide (p.remaining ≤ 1)).map PendingCue.toRecord)
      (s.setLight { s.light with pendingCues :=
        (s.light.pendingCues.filter fun p => decide (1 < p.remaining)).map fun p => { p with remaining := p.remaining - 1 } })
      s.servePending := by
  have htaken := takeCues_inOrder ((pendingExpired s.light.pendingCues).map PendingCue.toRecord) (fun c hc => by
    obtain ⟨p, hp, rfl⟩ := List.mem_map.mp hc
    exact h p (List.mem_of_mem_filter hp)) (s.setLight { s.light with pendingCues := pendingAfter s.light.pendingCues })
  rw [List.foldl_map, pendingAfter_eq, pendingExpired_eq] at htaken
  rw [State.servePending, pendingAfter_eq, pendingExpired_eq]
  exact htaken

/-- A fade that is not running keeps its level (R124). -/
theorem advance_of_held {f : Fade} (h : f.state ≠ .fading) : f.advance = f := if_neg h

/-- A fade at its last step ends at its target (R124). -/
theorem advance_of_last {f : Fade} (h : f.state = .fading) (hlast : f.length ≤ f.step + 1) :
    f.advance = { f with step := f.step + 1, level := f.target, state := .held } := (if_pos h).trans (if_pos hlast)

/-- A fade under way moves along the line from its start to its target (R124). -/
theorem advance_of_more {f : Fade} (h : f.state = .fading) (hmore : f.step + 1 < f.length) :
    f.advance = { f with
      step := f.step + 1
      level := ((f.start : Int) +
        truncDiv (((f.target : Int) - (f.start : Int)) * ((f.step : Int) + 1)) (f.length : Int)).toNat } :=
  (if_pos h).trans (if_neg (Nat.not_le.mpr hmore))

/-- The level of a fade under way is never below 0 (R124). -/
theorem fadeLevel_nonneg (start target step length : Nat) (h : step + 1 < length) :
    0 ≤ (start : Int) + Int.tdiv (((target : Int) - (start : Int)) * ((step : Int) + 1)) (length : Int) := by
  have hneg : (((target : Int) - (start : Int)) * ((step : Int) + 1)) ≥ -((start : Int) * length) := by
    nlinarith
  have hlevel := Int.tdiv_le_tdiv (Int.natCast_pos.mpr (by omega : 0 < length)) hneg
  rw [Int.neg_tdiv, Int.mul_tdiv_cancel _ (by omega)] at hlevel
  omega

/-- A channel's fade after a fade step (R124). -/
theorem stepFades_fade (s : State) (n : Fin 8) :
    s.stepFades.light.fades[n.val] = (s.light.fades[n.val]).stepped s.light.slewedCap := by
  have hfades : s.stepFades.light.fades = mapAt s.light.fades fun _ f => f.stepped s.light.slewedCap := rfl
  rw [hfades, mapAt_getElem]

/-- The channels of a fade step, by the state of each fade (R124, R125). -/
theorem stepFades_stepped (s : State) : FadesStepped s s.stepFades := by
  have hfade := stepFades_fade s
  refine ⟨fun n f hf => ⟨fun hheld => ?_, fun hrun hlast => ?_, fun hrun hmore => ?_⟩, fun n => ?_, rfl⟩
  · rw [hfade, hf, Fade.stepped, advance_of_held hheld]
  · rw [hfade, hf, Fade.stepped, advance_of_last hrun hlast]
  · refine ⟨_, Int.toNat_of_nonneg (fadeLevel_nonneg f.start f.target f.step f.length hmore), ?_⟩
    rw [hfade, hf, Fade.stepped, advance_of_more hrun hmore]
    rfl
  · have hdimmers : s.stepFades.gens.dimmers = mapAt s.gens.dimmers fun n d =>
        { d with gen := d.gen.write (s.stepFades.light.fades[n.val]).output } := rfl
    rw [hdimmers, mapAt_getElem]

/-- Whether a channel's fade is HELD after its step (R124). -/
theorem stepped_held_iff {f : Fade} {cap : Nat} (h : f.state = .fading) : (f.stepped cap).state = .held ↔ f.length ≤ f.step + 1 := by
  by_cases hlast : f.length ≤ f.step + 1
  · rw [Fade.stepped, advance_of_last h hlast]
    exact iff_of_true rfl hlast
  · rw [Fade.stepped, advance_of_more h (Nat.lt_of_not_le hlast)]
    refine iff_of_false ?_ hlast
    show f.state ≠ .held
    rw [h]
    decide

/-- Settles O42: the list served, then the channels stepped; and the rows about expiries and ends at the same step. -/
theorem fadeStepServesThenAdvances : Obligations.FadeStepServesThenAdvances := by
  intro s hop hnostop
  have hexec : exec .fadeStep s = .next s.fadeStep := takenIf_of_true hop
  have hop' : s.operating = true := hop
  have hfade : ∀ n : Fin 8, s.fadeStep.light.fades[n.val] =
      (s.servePending.light.fades[n.val]).stepped s.servePending.light.slewedCap := stepFades_fade s.servePending
  have hreaches : s.fadeStep = (s.servePending.setLight { s.servePending.light with
      fades := s.fadeStep.light.fades, radiant := s.fadeStep.light.radiant }).setGens
        { s.servePending.gens with dimmers := s.fadeStep.gens.dimmers } := by
    rw [State.fadeStep]
    generalize s.servePending = u
    rfl
  refine ⟨⟨s.fadeStep, s.servePending, hexec, servePending_inOrder hnostop, stepFades_stepped _, hreaches, fun n => ⟨fun hrun hlast => ?_,
    fun hno => ?_⟩⟩, fun ⟨p, hp, hends⟩ => ?_⟩
  · rw [hexec]
    refine takenIf_of_true ?_
    rw [hop', Bool.true_and, Bool.and_eq_true, decide_eq_true_eq, decide_eq_true_eq]
    refine ⟨hrun, ?_⟩
    show (s.fadeStep.light.fades[n.val]).state = .held
    rw [hfade, stepped_held_iff hrun]
    exact hlast
  · refine takenIf_of_false ?_
    rw [hop', Bool.true_and, ← Bool.not_eq_true, Bool.and_eq_true, decide_eq_true_eq, decide_eq_true_eq]
    rintro ⟨hrun, hheld⟩
    have hrun' : (s.servePending.light.fades[n.val]).state = .fading := hrun
    have hends : (s.fadeStep.light.fades[n.val]).state = .held := hheld
    rw [hfade, stepped_held_iff hrun'] at hends
    exact hno.elim (absurd hrun) (Nat.not_lt.mpr hends)
  · rw [hexec]
    refine takenIf_of_true ?_
    rw [hop', Bool.true_and, Bool.not_eq_true', List.isEmpty_eq_false_iff, pendingExpired_eq]
    exact List.ne_nil_of_mem (List.mem_filter.mpr ⟨hp, decide_eq_true hends⟩)

end Sys2Proof.Machine

/-!
PROOFS. Field pins and cue inputs (O44, O60): what a pin is driven at and reads, and the samples of the cue inputs (R146 to R149).
-/
namespace Sys2Proof.Machine

/-! ### What a pin is driven at -/

theorem isOutputFunction_of_input {f : PinFunction} (h : f = .input ∨ ∃ i, f = .cueIn i) : isOutputFunction f = false := by
  obtain rfl | ⟨i, rfl⟩ := h <;> rfl

/-- Nothing is driven in UNSET (R146). -/
theorem pinDrive_of_unset {s : State} (h : s.node.state = .unset) (n : Fin 24) : pinDrive s n = none :=
  if_pos (by rw [h]; rfl)

/-- An input function is released (R146). -/
theorem pinDrive_of_input {s : State} {n : Fin 24} (h : isOutputFunction (s.cfg.pins[n.val]).function = false) : pinDrive s n = none := by
  have hfunction : isOutputFunction (s.cfg.pins[n]).function = false := h
  exact if_pos (by rw [hfunction]; simp)

/-- An output function drives its level under the polarity by the drive mode (R146). -/
theorem pinDrive_of_output {s : State} {n : Fin 24} (hstate : s.node.state ≠ .unset)
    (h : isOutputFunction (s.cfg.pins[n.val]).function = true) :
    pinDrive s n = match (s.cfg.pins[n.val]).drive with
      | .pushPull => some (underPolarity (s.cfg.pins[n.val]).polarity (logicalLevel s (s.cfg.pins[n.val]).function))
      | .openDrain =>
        if underPolarity (s.cfg.pins[n.val]).polarity (logicalLevel s (s.cfg.pins[n.val]).function) then none else some false := by
  have hfunction : isOutputFunction (s.cfg.pins[n]).function = true := h
  exact if_neg (by rw [hfunction]; simpa using hstate)

theorem underPolarity_eq {p : Polarity} {level high : Bool} (hnormal : p = .normal → high = level)
    (hinverted : p = .inverted → high = !level) : underPolarity p level = high := by
  cases p with
  | normal => exact (hnormal rfl).symm
  | inverted => exact (hinverted rfl).symm

/-- ATTENTION follows the causes in the attention mask (R160). -/
theorem attention_iff (s : State) :
    attention s = true ↔ ∃ i : Fin 12, s.cfg.node.mask.getLsbD i.val = true ∧ (s.node.causes[i.val]).flag = true := by
  simp [attention]

/-- A gated output is low in OFF_TIME (R140). -/
theorem gated_iff (d : Dimmer) :
    d.gated = true ↔ d.gen.output = true ∧ ¬(d.strobe.active = true ∧ d.strobe.phase = .offTime) := by
  rw [Dimmer.gated, Bool.and_eq_true, Bool.not_eq_true', ← Bool.not_eq_true, Bool.and_eq_true, decide_eq_true_eq]

/-! ### What a pin reads -/

theorem rawLevel_forcedLow {s : State} {n : Fin 24} (h : s.pins.board[n.val] = .forcedLow) : rawLevel s n = false := by
  have hboard : s.pins.board[n] = .forcedLow := h
  simp only [rawLevel, hboard]

theorem rawLevel_forcedHigh {s : State} {n : Fin 24} (h : s.pins.board[n.val] = .forcedHigh) : rawLevel s n = true := by
  have hboard : s.pins.board[n] = .forcedHigh := h
  simp only [rawLevel, hboard]

/-- A driven pin that the board does not overpower reads the driven level (R147). -/
theorem rawLevel_driven {s : State} {n : Fin 24} {level : Bool} (hdrive : pinDrive s n = some level)
    (hlow : s.pins.board[n.val] ≠ .forcedLow) (hhigh : s.pins.board[n.val] ≠ .forcedHigh) : rawLevel s n = level := by
  unfold rawLevel
  split
  · rename_i hboard
    exact absurd hboard hlow
  · rename_i hboard
    exact absurd hboard hhigh
  all_goals simp_all

theorem rawLevel_low {s : State} {n : Fin 24} (hdrive : pinDrive s n = none) (h : s.pins.board[n.val] = .low) :
    rawLevel s n = false := by
  have hboard : s.pins.board[n] = .low := h
  simp only [rawLevel, hboard, hdrive]

theorem rawLevel_high {s : State} {n : Fin 24} (hdrive : pinDrive s n = none) (h : s.pins.board[n.val] = .high) :
    rawLevel s n = true := by
  have hboard : s.pins.board[n] = .high := h
  simp only [rawLevel, hboard, hdrive]

/-- An input pin that nothing holds reads high under its pull-up (R147). -/
theorem rawLevel_pulledUp {s : State} {n : Fin 24} (hstate : s.node.state ≠ .unset)
    (hinput : isOutputFunction (s.cfg.pins[n.val]).function = false) (hpull : (s.cfg.pins[n.val]).pullUp = true)
    (h : s.pins.board[n.val] = .opened) : rawLevel s n = true := by
  have hboard : s.pins.board[n] = .opened := h
  have hacts : pullUpActs s n = true := by simp [pullUpActs, hstate, hinput, hpull]
  simp only [rawLevel, hboard, pinDrive_of_input hinput, hacts, if_true]

/-- Settles O60: the level read, by what holds the pin; and the level driven, by the function. -/
theorem pinsDriveTheirFunctions : Obligations.PinsDriveTheirFunctions := by
  intro s n c hc
  refine ⟨rawLevel_forcedLow, rawLevel_forcedHigh, fun level => rawLevel_driven, rawLevel_low, rawLevel_high,
    fun hstate hinput hpull => ?_, fun hunset => pinDrive_of_unset hunset n, fun hinput => ?_,
    fun level high hstate hlevel hnormal hinverted => ?_⟩
  · rw [← hc] at hinput hpull
    exact rawLevel_pulledUp hstate (isOutputFunction_of_input hinput) hpull
  · rw [← hc] at hinput
    exact pinDrive_of_input (isOutputFunction_of_input hinput)
  · have hlogical : isOutputFunction c.function = true ∧ logicalLevel s c.function = level := by
      obtain ⟨i, hf, hiff⟩ | ⟨i, hf, rfl⟩ | ⟨i, hf, rfl⟩ | ⟨hf, rfl⟩ | ⟨hf, hiff⟩ | ⟨hf, rfl⟩ | ⟨hf, rfl⟩ := hlevel
      · rw [hf]
        exact ⟨rfl, Bool.eq_iff_iff.mpr ((gated_iff _).trans hiff.symm)⟩
      · rw [hf]
        exact ⟨rfl, rfl⟩
      · rw [hf]
        exact ⟨rfl, rfl⟩
      · rw [hf]
        exact ⟨rfl, rfl⟩
      · rw [hf]
        exact ⟨rfl, Bool.eq_iff_iff.mpr ((attention_iff s).trans hiff.symm)⟩
      · rw [hf]
        exact ⟨rfl, rfl⟩
      · rw [hf]
        exact ⟨rfl, rfl⟩
    obtain ⟨houtput, hlevel⟩ := hlogical
    have hdrive := pinDrive_of_output (n := n) hstate (by rw [hc]; exact houtput)
    rw [hc, hlevel, underPolarity_eq hnormal hinverted] at hdrive
    refine ⟨fun hmode => ?_, fun hmode => ?_⟩
    · rw [hdrive, hmode]
    · rw [hdrive, hmode]

/-! ### One sample of a cue input -/

/-- A sample before arming that leaves the run below 20 (R148). -/
theorem sample_of_unarmed {c : CueInput} {level : Bool} {run : Nat} (harmed : c.armed = false)
    (hrun : run = if c.lastLevel = some level then c.armingRun + 1 else 1) (hless : run < 20) :
    c.sample level = { c with armingRun := run, lastLevel := some level } := by
  have harm : c.sample level = c.armStep level := if_neg (by rw [harmed]; decide)
  rw [harm, CueInput.armStep, ← hrun, if_neg (Nat.not_le.mpr hless)]

/-- The sample that arms (R148). -/
theorem sample_of_arms {c : CueInput} {level : Bool} {run : Nat} (harmed : c.armed = false)
    (hrun : run = if c.lastLevel = some level then c.armingRun + 1 else 1) (hfull : 20 ≤ run) :
    c.sample level =
      { c with armed := true, armingRun := run, lastLevel := some level, debounced := some level, changeRun := 0 } := by
  have harm : c.sample level = c.armStep level := if_neg (by rw [harmed]; decide)
  rw [harm, CueInput.armStep, ← hrun, if_pos hfull]

/-- A sample of an armed input is compared with its debounced level (R149). -/
theorem sample_of_armed {c : CueInput} {level : Bool} (harmed : c.armed = true) : c.sample level = c.changeStep level := if_pos harmed

theorem changeStep_of_same {c : CueInput} {level : Bool} (h : c.debounced = some level) :
    c.changeStep level = { c with lastLevel := some level, changeRun := 0 } := if_pos h

theorem changeStep_of_run {c : CueInput} {level : Bool} (h : c.debounced ≠ some level) (hless : c.changeRun + 1 < 8) :
    c.changeStep level = { c with lastLevel := some level, changeRun := c.changeRun + 1 } :=
  (if_neg h).trans (if_neg (Nat.not_le.mpr hless))

theorem changeStep_of_edge {c : CueInput} {level : Bool} (h : c.debounced ≠ some level) (hfull : 8 ≤ c.changeRun + 1) :
    c.changeStep level = { c with lastLevel := some level, debounced := some level, changeRun := 0 } :=
  (if_neg h).trans (if_pos hfull)

/-- A rising edge of an armed input (R149). -/
theorem risesNow_iff (c c' : CueInput) :
    risesNow c c' = true ↔ c.armed = true ∧ c.debounced ≠ some true ∧ c'.debounced = some true := by
  rw [risesNow, edgeNow, Bool.and_eq_true, Bool.and_eq_true, decide_eq_true_eq, decide_eq_true_eq]
  constructor
  · rintro ⟨⟨harmed, hedge⟩, hhigh⟩
    exact ⟨harmed, fun h => hedge (hhigh.trans h.symm), hhigh⟩
  · rintro ⟨harmed, hlow, hhigh⟩
    exact ⟨⟨harmed, fun h => hlow (h.symm.trans hhigh)⟩, hhigh⟩

/-! ### The level a sample forms -/

/-- The raw level that a held or pulled-up input pin settles (R147). -/
theorem rawLevel_settled {s : State} {p : Fin 24} {n : Fin 2} {raw : Bool} (hop : operatingIn s.node.state = true)
    (hf : (s.cfg.pins[p.val]).function = .cueIn n)
    (h : (raw = false ∧ (s.pins.board[p.val] = .low ∨ s.pins.board[p.val] = .forcedLow)) ∨
      (raw = true ∧ (s.pins.board[p.val] = .high ∨ s.pins.board[p.val] = .forcedHigh ∨
        (s.pins.board[p.val] = .opened ∧ (s.cfg.pins[p.val]).pullUp = true)))) : rawLevel s p = raw := by
  have hinput : isOutputFunction (s.cfg.pins[p.val]).function = false := isOutputFunction_of_input (.inr ⟨n, hf⟩)
  obtain ⟨rfl, hlow | hforced⟩ | ⟨rfl, hhigh | hforced | ⟨hopened, hpull⟩⟩ := h
  · exact rawLevel_low (pinDrive_of_input hinput) hlow
  · exact rawLevel_forcedLow hforced
  · exact rawLevel_high (pinDrive_of_input hinput) hhigh
  · exact rawLevel_forcedHigh hforced
  · exact rawLevel_pulledUp (ne_unset_of_operating hop) hinput hpull hopened

/-- A stopped input is not sampled (R148). -/
theorem sampledInput_of_stopped {s : State} {n : Fin 2} (h : (s.pins.cueInputs[n.val]).sampling = false) :
    sampledInput s n = s.pins.cueInputs[n.val] := by
  have hstopped : (s.pins.cueInputs[n]).sampling = false := h
  simp only [sampledInput, sampledLevel, hstopped, Bool.false_eq_true, if_false]
  rfl

/-- A sampling input takes the level under the polarity of the pin that carries it (R148). -/
theorem sampledInput_of_pin {s : State} {n : Fin 2} {p : Fin 24} {raw level : Bool}
    (h : (s.pins.cueInputs[n.val]).sampling = true) (hpin : pinOf s.cfg (.cueIn n) = some p) (hraw : rawLevel s p = raw)
    (hlevel : level = if (s.cfg.pins[p.val]).polarity = .inverted then !raw else raw) :
    sampledInput s n = (s.pins.cueInputs[n.val]).sample level := by
  have hsampling : (s.pins.cueInputs[n]).sampling = true := h
  have hunder : underPolarity (s.cfg.pins[p]).polarity (rawLevel s p) = level := by
    rw [hraw]
    refine underPolarity_eq (fun hn => ?_) fun hi => ?_
    · rw [hlevel, if_neg]
      show (s.cfg.pins[p]).polarity ≠ _
      rw [hn]
      decide
    · rw [hlevel, if_pos]
      exact hi
  simp only [sampledInput, sampledLevel, hsampling, if_true, hpin, Option.map_some, hunder]
  rfl

/-! ### The sample of both inputs -/

/-- A rise originates its input's cue (R149, R123). -/
theorem originateOnRise_of_rise {s before : State} {n : Fin 2}
    (h : risesNow before.pins.cueInputs[n] (sampledInput before n) = true) : s.originateOnRise before n = s.originate n := if_pos h

theorem originateOnRise_of_none {s before : State} {n : Fin 2}
    (h : ¬risesNow before.pins.cueInputs[n] (sampledInput before n) = true) : s.originateOnRise before n = s := if_neg h

/-- Settles O44: the sampled records, the cues that their rises originate in order, and the record of an input by its level. -/
theorem cueInputSampleArmsAndAccepts : Obligations.CueInputSampleArmsAndAccepts := by
  intro s board hop
  obtain ⟨v, hv⟩ : ∃ v, v = s.setBoard board := ⟨_, rfl⟩
  obtain ⟨b, hb⟩ : ∃ b, b = v.sampleRecords := ⟨_, rfl⟩
  have hvinputs : v.pins.cueInputs = s.pins.cueInputs := by rw [hv]; rfl
  have hvcfg : v.cfg = s.cfg := by rw [hv]; rfl
  have hvboard : v.pins.board = board := by rw [hv]; rfl
  have hvnode : v.node = s.node := by rw [hv]; rfl
  have hexec : exec (.cueInputSample board) s = .next ((b.originateOnRise v 0).originateOnRise v 1) := by
    rw [hb, hv]
    exact takenIf_of_true hop
  have hafter : ∀ n : Fin 2, (Vector.ofFn (sampledInput v))[n.val] = sampledInput v n := fun n => Vector.getElem_ofFn ..
  refine ⟨_, b, Vector.ofFn (sampledInput v), fun n => risesNow v.pins.cueInputs[n] (sampledInput v n) = true, hexec, ?_, fun n => ?_,
    fun h0 h1 => ?_, fun h0 h1 => ?_, fun h0 h1 => ?_, fun h0 h1 => ?_, fun n => ⟨fun hstopped => ?_, ?_⟩⟩
  · rw [hb, hv]
    rfl
  · rw [hafter, ← hvinputs]
    exact risesNow_iff _ _
  · rw [originateOnRise_of_none h0, originateOnRise_of_none h1]
  · rw [originateOnRise_of_rise h0, originateOnRise_of_none h1]
    exact originate_originated b 0
  · rw [originateOnRise_of_none h0, originateOnRise_of_rise h1]
    exact originate_originated b 1
  · rw [originateOnRise_of_rise h0, originateOnRise_of_rise h1]
    exact ⟨b.originate 0, originate_originated b 0, originate_originated _ 1⟩
  · rw [← hvinputs] at hstopped
    rw [hafter, sampledInput_of_stopped hstopped, hvinputs]
  · intro p raw level c run hc hsampling hf hfirst hraw hlevel hrun
    have hsampled : sampledInput v n = c.sample level := by
      have hpin : pinOf v.cfg (.cueIn n) = some p := by rw [hvcfg]; exact pinOf_first p hf hfirst
      rw [← hc, ← hvinputs] at hsampling
      have h := sampledInput_of_pin (level := level) hsampling hpin
        (rawLevel_settled (s := v) (n := n) (raw := raw) (by rw [hvnode]; exact hop) (by rw [hvcfg]; exact hf)
          (by rw [hvcfg, hvboard]; exact hraw)) (by rw [hvcfg]; exact hlevel)
      rwa [hvinputs, hc] at h
    have hbefore : s.pins.cueInputs[n] = c := hc
    rw [hafter, hsampled]
    refine ⟨fun harmed hless => sample_of_unarmed harmed hrun hless, fun harmed hfull => ?_, fun harmed hsame => ?_,
      fun harmed hdiff hless => ?_, fun harmed hdiff hfull => ?_⟩
    · have harms := sample_of_arms harmed hrun hfull
      refine ⟨harms, ?_⟩
      refine Eq.trans (takenIf_of_true ?_) (takenIf_of_true (b := s.operating) hop).symm
      rw [← hv, hsampled, harms, hbefore, armsNow, harmed]
      simpa [State.operating] using hop
    · rw [sample_of_armed harmed, changeStep_of_same hsame]
    · rw [sample_of_armed harmed, changeStep_of_run hdiff hless]
    · have hedge := (sample_of_armed (level := level) harmed).trans (changeStep_of_edge hdiff hfull)
      refine ⟨hedge, ?_⟩
      refine Eq.trans (takenIf_of_true ?_) (takenIf_of_true (b := s.operating) hop).symm
      rw [← hv, hsampled, hedge, hbefore, edgeNow, harmed]
      simpa [State.operating, hdiff.symm] using hop

end Sys2Proof.Machine

/-!
PROOFS. Access to the arena line (O45 to O47): the slot count, and what a failed attempt does with its frame (R36 to R49).
-/
namespace Sys2Proof.Machine

/-! ### The slot count -/

/-- The slot of a class U frame (R40, Table 3-2). -/
theorem slotOf_classU {x : TxFrame} (h : (∃ on, x = .fog on) ∨ ∃ c, x = .cue c) (a k : Nat) :
    slotOf x.classU a k = a / 2 ^ (k % 6) % 2 := by
  obtain ⟨on, rfl⟩ | ⟨c, rfl⟩ := h <;> rfl

/-- The slot of a class S frame (R40, Table 3-2). -/
theorem slotOf_classS {x : TxFrame} (h : x = .recall ∨ (∃ c, x = .replay c) ∨ ∃ c, x = .status c) (a k : Nat) :
    slotOf x.classU a k = 2 + ((if k % 2 = 0 then a % 8 else a / 8) ^^^ (k / 2 % 8)) := by
  obtain rfl | ⟨c, rfl⟩ | ⟨c, rfl⟩ := h <;> rfl

/-- A frame's slot by its class (R40, Table 3-2). -/
theorem slotOf_eq {x : TxFrame} {a k slot : Nat} (hU : (∃ on, x = .fog on) ∨ (∃ c, x = .cue c) → slot = a / 2 ^ (k % 6) % 2)
    (hS : x = .recall ∨ (∃ c, x = .replay c) ∨ (∃ c, x = .status c) →
      slot = 2 + ((if k % 2 = 0 then a % 8 else a / 8) ^^^ (k / 2 % 8))) : slotOf x.classU a k = slot := by
  cases x with
  | fog on => rw [hU (.inl ⟨on, rfl⟩), slotOf_classU (.inl ⟨on, rfl⟩)]
  | cue c => rw [hU (.inr ⟨c, rfl⟩), slotOf_classU (.inr ⟨c, rfl⟩)]
  | replay c => rw [hS (.inr (.inl ⟨c, rfl⟩)), slotOf_classS (.inr (.inl ⟨c, rfl⟩))]
  | status c => rw [hS (.inr (.inr ⟨c, rfl⟩)), slotOf_classS (.inr (.inr ⟨c, rfl⟩))]
  | _ => rw [hS (.inl rfl), slotOf_classS (.inl rfl)]

theorem exec_slotStart {s : State} {k : Nat} (hop : operatingIn s.node.state = true) (hidle : s.line.access = .idle k) :
    exec .slotStart s = .next (s.startSlot k) := by
  have hexec : exec .slotStart s = execSlotStart s := rfl
  rw [hexec, execSlotStart, hidle]
  exact takenIf_of_true hop

/-- A slot in which nothing is sent (R41). -/
theorem startSlot_of_silent {s : State} {k : Nat}
    (h : ∀ x, s.line.queue.head = some x → (mayTransmitIn s.node.state && headSlotNow s k x) = false) :
    s.startSlot k = s.setAccess (.idle (k + 1)) := by
  unfold State.startSlot
  cases hhead : s.line.queue.head with
  | none => rfl
  | some x => exact if_neg (by rw [h x hhead]; decide)

/-- The slot in which the head's attempt begins (R41). -/
theorem startSlot_of_begins {s : State} {k : Nat} {x : Queued} (hhead : s.line.queue.head = some x)
    (hmay : mayTransmitIn s.node.state = true) (hslot : headSlotNow s k x = true) : s.startSlot k = s.beginAttempt x := by
  unfold State.startSlot
  rw [hhead]
  exact if_pos (by rw [hmay, hslot]; rfl)

/-- The frame an attempt sends, by the kind of the head (R49). -/
theorem atAttempt_of_other {own : FogLevel} {x : TxFrame} (h : ∀ c, x ≠ .status c) : atAttempt own x = x := by
  cases x with
  | status c => exact absurd rfl (h c)
  | fog on => rfl
  | cue c => rfl
  | replay c => rfl
  | _ => rfl

/-- Settles O45: a release, another's lead, and a slot start by the state, the head and its slot. -/
theorem slotCountAndAttempts : Obligations.SlotCountAndAttempts := by
  intro s hop
  refine ⟨fun hnot => ?_, fun k hidle => ⟨?_, fun hsilent => ?_, fun x rest slot hmay hhead hU hS => ⟨fun hother => ?_, fun hnow => ?_⟩⟩⟩
  · refine takenIf_of_true ?_
    rw [Bool.and_eq_true, decide_eq_true_eq]
    exact ⟨hop, hnot⟩
  · refine takenIf_of_true ?_
    rw [Bool.and_eq_true]
    exact ⟨hop, by rw [lineIdle, hidle]⟩
  · rw [exec_slotStart hop hidle, startSlot_of_silent fun x hhead => ?_]
    · rfl
    · obtain hno | hempty := hsilent
      · rw [hno, Bool.false_and]
      · rw [hempty] at hhead
        cases hhead
  · obtain ⟨hfound, -⟩ := head_of_headOf hhead
    rw [exec_slotStart hop hidle, startSlot_of_silent fun y hy => ?_]
    · rfl
    · rw [hfound] at hy
      cases hy
      rw [headSlotNow, slotOf_eq hU hS, slotNumber, decide_eq_false hother, Bool.and_false]
  · obtain ⟨hfound, hrest⟩ := head_of_headOf hhead
    have hbegins : headSlotNow s k x = true := by
      rw [headSlotNow, slotOf_eq hU hS]
      exact decide_eq_true hnow
    refine ⟨Staged.mk { x with frame := atAttempt s.fog.own x.frame } ((atAttempt s.fog.own x.frame).toFrame s.cfg.node.address), ?_,
      rfl, rfl, fun c hc => ?_, fun hc => atAttempt_of_other hc⟩
    · rw [exec_slotStart hop hidle, startSlot_of_begins hfound hmay hbegins, State.beginAttempt, hrest]
    · show atAttempt s.fog.own x.frame = _
      rw [hc]
      rfl

/-! ### Failed attempts -/

/-- A failed attempt below number 15 returns its frame (R42, R43). -/
theorem failAttempt_of_low {s : State} {st : Staged} (h : st.queued.attempt < 15) : s.failAttempt st =
    s.setLine { s.line with
      stage := none, queue := s.line.queue.giveBack { st.queued with attempt := st.queued.attempt + 1 } } :=
  if_neg (by omega)

/-- A failed attempt at number 15 drops its frame (R45). -/
theorem failAttempt_of_last {s : State} {st : Staged} (h : st.queued.attempt = 15) :
    s.failAttempt st = (s.setLine { s.line with stage := none }).raiseDrop st.queued.frame :=
  if_pos (by omega)

theorem exec_collision {s : State} {st : Staged} (hsend : s.line.access = .sending) (hstage : s.line.stage = some st) :
    exec .collision s = .next (s.collide st) := by
  have hexec : exec .collision s = execCollision s := rfl
  rw [hexec, execCollision, attemptUnderWay_of_sending hsend, hstage]

theorem exec_disturbance {s : State} {st : Staged} (hsend : s.line.access = .sending) (hstage : s.line.stage = some st) :
    exec .disturbance s = .next (s.disturb st) := by
  have hexec : exec .disturbance s = execDisturbance s := rfl
  rw [hexec, execDisturbance, attemptUnderWay_of_sending hsend, hstage]

/-- A rise of the score reaches the score, degraded and the causes (R53). -/
theorem scoreUp_eq (s : State) : s.scoreUp = (s.setLine { s.line with
    score := s.scoreUp.line.score, degraded := s.scoreUp.line.degraded }).setNode { s.node with causes := s.scoreUp.node.causes } := by
  have hline : s.scoreUp.line = { s.line with score := s.scoreUp.line.score, degraded := s.scoreUp.line.degraded } := by
    simp [State.scoreUp]
  have hnode : s.scoreUp.node = { s.node with causes := s.scoreUp.node.causes } := by
    have hkept := NodeControl.eq_of_kept (n := s.scoreUp.node) (m := s.node) (by simp)
    have hstate : s.scoreUp.node.state = s.node.state := by simp
    rwa [hstate] at hkept
  apply State.eq_of_fields
  simpa using ⟨hline, hnode⟩

/-- Only the score, degraded and the causes are compared. -/
theorem ScoredBad.congr {s t t' : State} (h : ScoredBad s t) (hscore : t'.line.score = t.line.score)
    (hdegraded : t'.line.degraded = t.line.degraded) (hcauses : t'.node.causes = t.node.causes) : ScoredBad s t' := by
  obtain ⟨h1, h2, h3⟩ := h
  exact ⟨hscore.trans h1, hdegraded.trans h2, h3.congr rfl hcauses⟩

/-- A disturbance below number 15 on the state that the rise of the score leaves (R43, R53). -/
theorem returned_after_score {s v : State} {score : Nat} {degraded : Bool} {n : NodeControl}
    (hv : v = (s.setLine { s.line with score := score, degraded := degraded }).setNode n) (x : Queued) :
    (v.setLine { v.line with stage := none, queue := v.line.queue.giveBack x }).setAccess .disturbed =
      (s.setLine { s.line with
        stage := none, queue := s.line.queue.giveBack x, access := .disturbed, score := score, degraded := degraded }).setNode n := by
  subst hv
  rfl

/-- Settles O46: the frame given back, with the score left by a collision and raised by a disturbance. -/
theorem failedAttemptsReturnTheFrame : Obligations.FailedAttemptsReturnTheFrame := by
  intro s st hsend hstage hlow
  refine ⟨⟨_, ?_, giveBack_returned _ _⟩, s.disturb st, _, exec_disturbance hsend hstage, ?_, ?_, giveBack_returned _ _⟩
  · rw [exec_collision hsend hstage, State.collide, failAttempt_of_low hlow]
    rfl
  · refine (scoreUp_bad s).congr ?_ ?_ ?_ <;> rw [State.disturb, failAttempt_of_low hlow] <;> rfl
  · have hlow' : s.disturb st = (s.scoreUp.setLine { s.scoreUp.line with
        stage := none
        queue := s.scoreUp.line.queue.giveBack { st.queued with attempt := st.queued.attempt + 1 } }).setAccess .disturbed := by
      rw [State.disturb, failAttempt_of_low hlow]
    rw [hlow']
    exact returned_after_score (scoreUp_eq s) _

/-- The cause that a dropped frame raises (R45). -/
theorem raiseDrop_causes (s : State) (x : TxFrame) :
    (∀ c, x = .cue c → CausesAfter s (s.raiseDrop x) 4 1) ∧
    ((∃ c, x = .status c) ∨ (∃ on, x = .fog on) → CausesAfter s (s.raiseDrop x) 3 1) ∧
    (x = .recall ∨ (∃ c, x = .replay c) → s.raiseDrop x = s) := by
  refine ⟨?_, ?_, ?_⟩
  · rintro c rfl
    exact raise_after s .cueDropped
  · rintro (⟨c, rfl⟩ | ⟨on, rfl⟩) <;> exact raise_after s .frameDropped
  · rintro (rfl | ⟨c, rfl⟩) <;> rfl

/-- One raise of a cause leaves another and counts itself (R159). -/
theorem CausesAfter.once {s t : State} {i : Fin 12} (h : CausesAfter s t i 1) {j : Fin 12} (hj : j ≠ i) :
    t.node.causes[j.val] = s.node.causes[j.val] ∧
      t.node.causes[i.val] = { flag := true, count := min 255 ((s.node.causes[i.val]).count + 1) } := by
  obtain ⟨hothers, hself⟩ := h
  exact ⟨hothers j hj, hself⟩

/-- The failure that a FRAME_DROP names (R45). -/
def State.failBy (s : State) (st : Staged) : AttemptFailure → State
  | .collision => s.collide st
  | .disturbance => s.disturb st

theorem exec_frameDrop {s : State} {st : Staged} (hsend : s.line.access = .sending) (hstage : s.line.stage = some st)
    (how : AttemptFailure) : exec (.frameDrop how) s = takenIf (decide (15 ≤ st.queued.attempt)) s (s.failBy st how) := by
  have hexec : exec (.frameDrop how) s = execFrameDrop how s := rfl
  rw [hexec, execFrameDrop, attemptUnderWay_of_sending hsend, hstage]
  cases how <;> rfl

/-- A failure at number 15, on what a disturbance's rise of the score leaves as it is (R43, R45). -/
theorem failBy_of_last {s : State} {st : Staged} (h : st.queued.attempt = 15) (how : AttemptFailure) :
    ∃ (v : State) (a : Access), s.failBy st how = ((v.setLine { v.line with stage := none }).raiseDrop st.queued.frame).setAccess a ∧
      v.line.queue = s.line.queue ∧ v.line.ownSequence = s.line.ownSequence ∧ v.comp = s.comp ∧ v.light = s.light ∧ v.gens = s.gens ∧
      v.node.state = s.node.state ∧ v.node.causes[3] = s.node.causes[3] ∧ v.node.causes[4] = s.node.causes[4] ∧
      (how = .collision → v.line.score = s.line.score) ∧
      (how = .disturbance → v.line.score = min 255 (s.line.score + 8)) := by
  cases how with
  | collision =>
    refine ⟨s, .receiving, ?_, rfl, rfl, rfl, rfl, rfl, rfl, rfl, rfl, fun _ => rfl, nofun⟩
    rw [State.failBy, State.collide, failAttempt_of_last h]
  | disturbance =>
    obtain ⟨hscore, -, hothers, -⟩ := scoreUp_bad s
    refine ⟨s.scoreUp, .disturbed, ?_, by simp, by simp, by simp, by simp, by simp, by simp, hothers 3 (by decide), hothers 4 (by decide),
      nofun, fun _ => hscore⟩
    rw [State.failBy, State.disturb, failAttempt_of_last h]

/-- Settles O47: the drop at number 15, by either failure, and its cause by the frame's kind. -/
theorem sixteenthFailureDropsTheFrame : Obligations.SixteenthFailureDropsTheFrame := by
  intro s st hsend hstage
  refine ⟨fun hlast how => ?_, fun hlow how => ?_⟩
  · have hexec : exec (.frameDrop how) s = .next (s.failBy st how) := by
      rw [exec_frameDrop hsend hstage]
      exact takenIf_of_true (decide_eq_true (by omega))
    obtain ⟨v, a, hdropped, hqueue, hsequence, hcomp, hlight, hgens, hstate, h3, h4, hcollision, hdisturbance⟩ :=
      failBy_of_last (s := s) hlast how
    obtain ⟨hcue, hown, hnone⟩ := raiseDrop_causes (v.setLine { v.line with stage := none }) st.queued.frame
    obtain ⟨t, ht⟩ : ∃ t, t = s.failBy st how := ⟨_, rfl⟩
    rw [← ht] at hdropped
    have hline : t.line = { v.line with stage := none, access := a } := by rw [hdropped]; simp [State.setAccess]
    have hcauses : t.node.causes =
        ((v.setLine { v.line with stage := none }).raiseDrop st.queued.frame).node.causes := by rw [hdropped]; rfl
    refine ⟨t, by rw [hexec, ht], ?_, by rw [hline], by rw [hline, ← hqueue],
      by rw [hline, ← hsequence], ?_, ?_, ?_, ?_, fun c hc => ?_, fun hkind => ?_, fun hkind => ?_, fun hhow => ?_, fun hhow => ?_⟩
    · rw [hexec]
      cases how with
      | collision => exact exec_collision hsend hstage
      | disturbance => exact exec_disturbance hsend hstage
    · rw [hdropped, ← hcomp]
      simp [State.setAccess]
    · rw [hdropped, ← hlight]
      simp [State.setAccess]
    · rw [hdropped, ← hgens]
      simp [State.setAccess]
    · rw [hdropped, ← hstate]
      simp [State.setAccess]
    · rw [hcauses, ← h3, ← h4]
      exact (hcue c hc).once (j := 3) (by decide)
    · rw [hcauses, ← h3, ← h4]
      exact (hown hkind).once (j := 4) (by decide)
    · rw [hcauses, hnone hkind, ← h3, ← h4]
      exact ⟨rfl, rfl⟩
    · rw [hline]
      exact hcollision hhow
    · rw [hline]
      exact hdisturbance hhow
  · rw [exec_frameDrop hsend hstage]
    exact takenIf_of_false (decide_eq_false (by omega))

end Sys2Proof.Machine

/-!
PROOFS. Reception (O49 to O51): the check word and the validity of a frame, invalid frames and fragments, the stuck line and the
clash (R38, R43, R50 to R56).
-/
namespace Sys2Proof.Machine

/-! ### The check word and the validity of a frame -/

/-- One more bit under the check word (R38). -/
theorem crc_concat (bits : Bits) (b : Bool) : crc (bits ++ [b]) = crcStep (crc bits) b := by
  rw [crc, List.foldl_append]
  rfl

/-- A bit equal to the register's highest shifts it (R38). -/
theorem crcStep_of_eq {r : Word16} {b : Bool} (h : r.getLsbD 15 = b) : crcStep r b = r <<< 1 := by
  have hmsb : r.msb = b := (BitVec.msb_eq_getLsbD_last r).trans h
  exact if_neg (by rw [hmsb]; simp)

/-- Any other bit shifts it and brings the polynomial (R38). -/
theorem crcStep_of_ne {r : Word16} {b : Bool} (h : r.getLsbD 15 ≠ b) : crcStep r b = (r <<< 1) ^^^ 4129#16 := by
  have hmsb : r.msb ≠ b := fun e => h ((BitVec.msb_eq_getLsbD_last r).symm.trans e)
  exact if_pos (by simpa using hmsb)

/-- END stands on the last element alone (R51). -/
theorem endMarksRight_iff (l : List Element) :
    endMarksRight l = true ↔ ∀ (i : Nat) (e : Element), l[i]? = some e → (e.endMark = true ↔ i + 1 = l.length) := by
  induction l with
  | nil => simp [endMarksRight]
  | cons x rest ih =>
    have hsplit : (∀ (i : Nat) (e : Element), (x :: rest)[i]? = some e → (e.endMark = true ↔ i + 1 = (x :: rest).length)) ↔
        (x.endMark = true ↔ rest = []) ∧ ∀ (i : Nat) (e : Element), rest[i]? = some e → (e.endMark = true ↔ i + 1 = rest.length) := by
      constructor
      · intro h
        refine ⟨?_, fun i e he => ?_⟩
        · have hfirst := h 0 x rfl
          rw [hfirst, List.length_cons, ← List.length_eq_zero_iff]
          omega
        · have hlater := h (i + 1) e he
          rw [hlater, List.length_cons]
          omega
      · rintro ⟨hfirst, hlater⟩ i e he
        cases i with
        | zero =>
          cases he
          rw [hfirst, List.length_cons, ← List.length_eq_zero_iff]
          omega
        | succ i =>
          rw [hlater i e he, List.length_cons]
          omega
    rw [hsplit, ← ih]
    cases rest with
    | nil => simp [endMarksRight]
    | cons y more => simp [endMarksRight]

/-- The element count by the kind (R51, Table 3-2). -/
theorem countFits_iff (f : Frame) : f.countFits = true ↔
    (f.kind = .status → 2 ≤ f.count.toNat ∧ f.count.toNat ≤ 8 ∧ f.demandCount ≤ 4 ∧
      f.count.toNat = 2 + f.hasCap.toNat + f.hasRadiant.toNat + f.demandCount) ∧
    (f.kind = .cue → f.count.toNat = 3) ∧ (f.kind = .fog → f.count.toNat = 1) ∧ (f.kind = .recall → f.count.toNat = 0) := by
  unfold Frame.countFits
  cases f.kind <;> simp [and_assoc]

/-- A reception closed on the state that the rise of the score leaves (R50, R53). -/
theorem access_after_score {s v : State} {score : Nat} {degraded : Bool} {n : NodeControl}
    (hv : v = (s.setLine { s.line with score := score, degraded := degraded }).setNode n) : v.setAccess .closed =
      (s.setLine { s.line with access := .closed, score := score, degraded := degraded }).setNode n := by
  subst hv
  rfl

/-- Settles O49: the check word bit by bit, the conditions of R51, and the score after each reception. -/
theorem invalidFramesAreScored : Obligations.InvalidFramesAreScored := by
  refine ⟨⟨rfl, fun bits b => ⟨fun heq => ?_, fun hne => ?_⟩⟩, fun f => ?_, fun s => ⟨fun r hr => ?_, fun r hr hcan => ?_⟩⟩
  · rw [crc_concat, crcStep_of_eq heq]
  · rw [crc_concat, crcStep_of_ne hne]
  · rw [valid_iff, endMarksRight_iff, countFits_iff, Frame.computedCheck]
  · have hbad : badReception r = true := by
      obtain ⟨f, rfl, hcomplete, hinvalid⟩ | ⟨bits, rfl, hleast, hmost⟩ := hr
      · rw [badReception, Frame.complete, decide_eq_true hcomplete, hinvalid]
        rfl
      · rw [badReception, decide_eq_true hleast, decide_eq_true hmost]
        rfl
    refine ⟨fun hcan => ?_, fun hop hdisturbed => ?_⟩
    · have hexec : exec (.invalidFrame r) s = .next (s.scoreUp.setAccess .closed) := (if_pos hcan).trans (takenIf_of_true hbad)
      refine ⟨_, hexec, (scoreUp_bad s).congr rfl rfl rfl, ?_⟩
      exact access_after_score (scoreUp_eq s)
    · have hcan : ¬canReceive s = true := by rw [canReceive, hdisturbed]; simp
      refine (if_neg hcan).trans (takenIf_of_true ?_)
      rw [hbad, readsDisturbed, decide_eq_true hdisturbed]
      simpa [State.operating] using hop
  · have hfragment : fragmentForm r = true := by
      obtain rfl | ⟨bits, rfl, hleast, hmost⟩ := hr
      · rfl
      · rw [fragmentForm, decide_eq_true hleast, decide_eq_true hmost]
        rfl
    exact takenIf_of_true (by rw [hcan, hfragment]; rfl)

/-! ### Entries into MUTE -/

/-- A cause raised with an entry into MUTE (R54 to R56). -/
theorem raise_enterMute (s : State) (c : Cause) (k : MuteKind) :
    MuteEntered s ((s.raise c).enterMute k) k ∧ CausesAfter s ((s.raise c).enterMute k) (causeIndex c) 1 ∧
      RestStands s ((s.raise c).enterMute k) ∧ ((s.raise c).enterMute k).light = s.light ∧
      ((s.raise c).enterMute k).line.score = s.line.score ∧ ((s.raise c).enterMute k).line.degraded = s.line.degraded := by
  refine ⟨(enterMute_entered (s.raise c) k).congr ?_ ?_ ?_ ?_ ?_ ?_ ?_, (raise_after s c).congr rfl ?_, ?_, ?_, ?_, ?_⟩
  · simp
  · simp
  · simp
  · simp
  · simp
  · simp
  · simp
  · simp
  · simp [RestStands, State.enterMute]
  · simp
  · simp
  · simp

/-- The line seen otherwise leaves an entry into MUTE as it is (R36, R56). -/
theorem MuteEntered.setAccess {s t : State} {k : MuteKind} (h : MuteEntered s t k) (a : Access) : MuteEntered s (t.setAccess a) k := h

/-! ### The stuck line -/

/-- The states in which frames are offered (R46). -/
theorem transmits_iff (x : NodeState) : mayTransmitIn x = true ↔ x = .listen ∨ x = .run := by
  cases x <;> simp [mayTransmitIn]

theorem lineStuck_of_transmits {s : State} (h : mayTransmitIn s.node.state = true) :
    s.lineStuck = ((s.raise .lineStuck).enterMute .stuck).setAccess .closed := by
  unfold State.lineStuck
  obtain hlisten | hrun := (transmits_iff _).mp h
  · rw [hlisten]
  · rw [hrun]

theorem lineStuck_of_mute {s : State} {k : MuteKind} (h : s.node.state = .mute k) :
    s.lineStuck = (s.raise .lineStuck).setAccess .closed := by
  unfold State.lineStuck
  rw [h]

/-- LISTEN and RUN are operating states (R56). -/
theorem operating_of_transmits {s : State} (h : mayTransmitIn s.node.state = true) : s.operating = true := by
  obtain hlisten | hrun := (transmits_iff _).mp h
  · rw [State.operating, hlisten]
    rfl
  · rw [State.operating, hrun]
    rfl

theorem operating_of_mute {s : State} {k : MuteKind} (h : s.node.state = .mute k) : s.operating = true := by
  rw [State.operating, h]
  rfl

/-- FOG_ON offered in LISTEN enters its place (R46, R84). -/
theorem offer_fog {s : State} (h : s.node.state = .listen) (on : Bool) :
    s.offer (.fog on) = s.setLine { s.line with queue := { s.line.queue with fogPlace := some { frame := .fog on, attempt := 0 } } } := by
  unfold State.offer
  rw [if_pos (by rw [h]; rfl), if_pos (by rfl)]
  rfl

/-- Settles O50: the stuck line in each operating state, and the end of a stuck-line MUTE. -/
theorem stuckLineMutesAndQuietReturns : Obligations.StuckLineMutesAndQuietReturns := by
  intro s
  refine ⟨fun hmay => ?_, fun k hmute => ?_, fun k hstuck hidle => ?_, fun hclash => ?_⟩
  · have hexec : exec .stuckLine s = .next s.lineStuck := takenIf_of_true (operating_of_transmits hmay)
    obtain ⟨hmute, hcauses, hrest, hlight, hscore, hdegraded⟩ := raise_enterMute s .lineStuck .stuck
    rw [lineStuck_of_transmits hmay] at hexec
    generalize (s.raise .lineStuck).enterMute .stuck = m at *
    exact ⟨m.setAccess .closed, hexec, hmute.setAccess .closed, hcauses, rfl, hscore, hdegraded, hlight, hrest⟩
  · have hexec : exec .stuckLine s = .next s.lineStuck := takenIf_of_true (operating_of_mute hmute)
    rw [lineStuck_of_mute hmute] at hexec
    exact ⟨_, hexec, raise_after s .lineStuck, rfl⟩
  · have hexec : exec .stuckLineEnd s = .next s.endStuckLine :=
      takenIf_of_true (by rw [quietTimerRuns, lineIdle, hstuck, hidle]; rfl)
    rw [hexec, State.endStuckLine]
    by_cases hfog : s.fog.own = .fog
    · rw [if_pos hfog, if_pos hfog, offer_fog (by simp)]
      rfl
    · rw [if_neg hfog, if_neg hfog]
      rfl
  · exact takenIf_of_false (by rw [quietTimerRuns, hclash]; rfl)

/-! ### The clash -/

theorem clash_of_transmits {s : State} (h : mayTransmitIn s.node.state = true) :
    s.clash = (s.raise .addressClash).enterMute .clash := by
  unfold State.clash
  obtain hlisten | hrun := (transmits_iff _).mp h
  · rw [hlisten]
  · rw [hrun]

theorem clash_of_mute {s : State} {k : MuteKind} (h : s.node.state = .mute k) :
    s.clash = (s.raise .addressClash).setNodeState (.mute .clash) := by
  unfold State.clash
  rw [h]

/-- An operating node is in LISTEN or RUN, or in a MUTE (R56). -/
theorem transmits_or_mute {x : NodeState} (h : operatingIn x = true) : mayTransmitIn x = true ∨ ∃ k, x = .mute k := by
  cases x with
  | unset => cases h
  | starting => cases h
  | listen => exact .inl rfl
  | run => exact .inl rfl
  | mute k => exact .inr ⟨k, rfl⟩

/-- A clash: its cause, and the MUTE that ends LISTEN, RUN and either MUTE (R55, R56). -/
theorem clash_effects {s : State} (hop : operatingIn s.node.state = true) (hclosed : s.line.access = .closed) :
    ∃ t, s.clash = t ∧ CausesAfter s t 0 1 ∧ t.line.access = .closed ∧ t.line.score = s.line.score ∧ t.line.degraded = s.line.degraded ∧
      t.light = s.light ∧ RestStands s t ∧ (mayTransmitIn s.node.state = true → MuteEntered s t .clash) ∧
      ∀ k, s.node.state = .mute k →
        t.node.state = .mute .clash ∧ t.line.queue = s.line.queue ∧ t.line.stage = s.line.stage ∧ t.heat = s.heat ∧
          t.gens = s.gens ∧ t.comp = s.comp := by
  obtain hmay | ⟨k, hmute⟩ := transmits_or_mute hop
  · obtain ⟨hmute, hcauses, hrest, hlight, hscore, hdegraded⟩ := raise_enterMute s .addressClash .clash
    have haccess : ((s.raise .addressClash).enterMute .clash).line.access = .closed := by
      have hline : (s.raise .addressClash).line = s.line := by simp
      rw [enterMute_line, hline, hclosed]
      rfl
    refine ⟨_, clash_of_transmits hmay, hcauses, haccess, hscore, hdegraded, hlight, hrest, fun _ => hmute, fun k hk => ?_⟩
    rw [hk] at hmay
    cases hmay
  · refine ⟨_, clash_of_mute hmute, raise_after s .addressClash, hclosed, rfl, rfl, rfl, ?_, fun hmay => ?_, fun _ _ => ?_⟩
    · simp [RestStands, State.setNodeState]
    · rw [hmute] at hmay
      cases hmay
    · simp [State.setNodeState]

/-- Settles O51: the clash on the state that the reception leaves, under the row of the frame's kind too. -/
theorem ownAddressIsAClash : Obligations.OwnAddressIsAClash := by
  intro s f hv hown hreceives
  obtain ⟨u, hu⟩ : ∃ u, u = s.scoreDown.setAccess .closed := ⟨_, rfl⟩
  have hbears : bearsOwnAddress s f = true := decide_eq_true hown
  have hclash : s.receiveValid f = u.clash := by
    rw [hu]
    exact if_pos hbears
  have hop : operatingIn s.node.state = true := by
    obtain hcan | ⟨hop, -⟩ := hreceives
    · exact (canReceive_spec hcan).1
    · exact hop
  have hready : (canReceive s || readsDisturbed s) = true := by
    obtain hcan | ⟨-, hdisturbed⟩ := hreceives
    · rw [hcan, Bool.true_or]
    · rw [readsDisturbed, decide_eq_true hdisturbed, Bool.and_true, Bool.or_eq_true]
      exact .inr hop
  have hrow : ∀ k, f.kind = k → receivesKind s f k = true := fun k hk => by
    rw [receivesKind, hv, decide_eq_true hk, hbears, Bool.and_true (readsDisturbed s), hready]
    rfl
  have hexec : exec (.validFrameOwnAddress f) s = .next (s.receiveValid f) :=
    takenIf_of_true (by rw [hv, hbears, hready]; rfl)
  refine ⟨?_, fun hk => ?_, fun hk => ?_, fun hk hmark => ?_, fun hk hmark => ?_, fun hk => ?_⟩
  · obtain ⟨t, ht, hcauses, haccess, hscore, hdegraded, hlight, hrest, hmay, hmute⟩ :=
      clash_effects (s := u) (by rw [hu]; simpa [State.setAccess] using hop) (by rw [hu]; rfl)
    rw [hclash, ht] at hexec
    have hblocks : u = s.setLine { s.line with score := u.line.score, degraded := u.line.degraded, access := .closed } := by rw [hu]; rfl
    have hscored : ScoredGood s u := by rw [hu]; exact scoreDown_good s
    have hnode : u.node = s.node := by rw [hu]; rfl
    refine ⟨t, hexec, hscored.congr ⟨rfl, rfl⟩ ⟨hscore, hdegraded⟩, hcauses.congr (by rw [hnode]) rfl, haccess, ?_, ?_,
      fun h => ?_, fun k hk => ?_⟩
    · rw [hlight, hu]
      rfl
    · rw [hblocks] at hrest
      exact hrest
    · refine (hmay (by rw [hnode]; exact h)).congr ?_ ?_ ?_ ?_ ?_ ?_ ?_ <;> rw [hu] <;> rfl
    · have h := hmute k (by rw [hnode]; exact hk)
      rw [hblocks] at h
      exact h
  · rw [hexec]
    exact takenIf_of_true (hrow _ hk)
  · rw [hexec]
    exact takenIf_of_true (hrow _ hk)
  · rw [hexec]
    exact takenIf_of_true (b := receivesKind s f .cue && !f.replayMark) (by rw [hrow _ hk, hmark]; rfl)
  · rw [hexec]
    exact takenIf_of_true (b := receivesKind s f .cue && f.replayMark) (by rw [hrow _ hk, hmark]; rfl)
  · rw [hexec]
    exact takenIf_of_true (hrow _ hk)

end Sys2Proof.Machine

/-!
PROOFS. Frames as they are formed and read (O52): the elements with their markers, the packed data of Tables 12-3 and 12-4, and what
each kind of frame reads back as (R37, R38, R51, R171).
-/
namespace Sys2Proof.Machine

/-! ### Elements and packed data -/

/-- The data and the DOUBT marker of every marked element (R37). -/
theorem markElements_map (l : List (Nat × Bool)) :
    (markElements l).map (fun e => (e.data, e.doubt)) = l.map fun p => (BitVec.ofNat 16 p.1, p.2) := by
  induction l with
  | nil => rfl
  | cons p rest ih =>
    cases rest with
    | nil => rfl
    | cons q more =>
      rw [List.map_cons, ← ih]
      rfl

theorem markElements_length (l : List (Nat × Bool)) : (markElements l).length = l.length := by
  have h := congrArg List.length (markElements_map l)
  rwa [List.length_map, List.length_map] at h

/-- END is set on the last marked element alone (R37). -/
theorem endMarksRight_markElements (l : List (Nat × Bool)) : endMarksRight (markElements l) = true := by
  induction l with
  | nil => rfl
  | cons p rest ih =>
    cases rest with
    | nil => rfl
    | cons q more =>
      cases more with
      | nil => rfl
      | cons r tail => exact ih

/-- The data of an element as it was formed, within 16 bits (R37). -/
theorem dataAt_toFrame (t : TxFrame) (a i : Nat) :
    (t.toFrame a).dataAt i = (t.elementData[i]?.map fun p => p.1 % 65536).getD 0 := by
  have h := congrArg (fun l : List (BitVec 16 × Bool) => (l[i]?.map fun p => p.1.toNat).getD 0) (markElements_map t.elementData)
  simp only [List.getElem?_map, Option.map_map] at h
  exact h

theorem doubtAt_toFrame (t : TxFrame) (a i : Nat) : (t.toFrame a).doubtAt i = (t.elementData[i]?.map Prod.snd).getD false := by
  have h := congrArg (fun l : List (BitVec 16 × Bool) => (l[i]?.map Prod.snd).getD false) (markElements_map t.elementData)
  simp only [List.getElem?_map, Option.map_map] at h
  exact h

/-- The demand record of an element's data and DOUBT marker (Table 12-3). -/
def demandOf (data : BitVec 16) (doubt : Bool) : Demand where
  cls := classOfField (field data.toNat 15 14)
  loop := Fin.ofNat 4 (field data.toNat 13 12)
  amount := field data.toNat 11 0
  doubt := doubt

/-- The demands read from a frame's elements are those of the data they were formed from (Table 12-3). -/
theorem demands_toFrame (t : TxFrame) (a k : Nat) :
    ((t.toFrame a).elements.drop k).map demandOfElement =
      (t.elementData.drop k).map fun p => demandOf (BitVec.ofNat 16 p.1) p.2 := by
  have h := congrArg (fun l : List (BitVec 16 × Bool) => (l.drop k).map fun p => demandOf p.1 p.2) (markElements_map t.elementData)
  simp only [← List.map_drop, List.map_map] at h
  exact h

/-- A field of 16 packed bits (R171). -/
theorem field_natOfBits {l : Bits} (hl : l.length = 16) (hi lo : Nat) (h : lo ≤ hi ∧ hi < 16) :
    field (natOfBits l) hi lo = part l (15 - hi) (hi + 1 - lo) := by
  have hpre : (List.replicate 8 false).length = 8 := rfl
  have hfield := field_eq_sent (pdi := List.replicate 8 false ++ l) (length := 16) (by rw [List.length_append, hpre, hl]) hi lo h
  rwa [List.drop_left' hpre, sentField_append hpre] at hfield

theorem flagBit_natOfBits {l : Bits} (hl : l.length = 16) (i : Nat) (h : i < 16) :
    flagBit (natOfBits l) i = (part l (15 - i) 1 == 1) := by
  have hfield := field_natOfBits hl i i ⟨Nat.le_refl i, h⟩
  rw [field, Nat.add_sub_cancel_left, Nat.pow_one] at hfield
  rw [flagBit, hfield]

/-- Packed data of 16 bits fills an element's data (R171). -/
theorem natOfBits_mod {l : Bits} (hl : l.length = 16) : natOfBits l % 65536 = natOfBits l := by
  have h := natOfBits_lt l
  rw [hl] at h
  exact Nat.mod_eq_of_lt h

/-! ### Valid frames -/

theorem count_toFrame {t : TxFrame} {a : Nat} (h : t.elementData.length < 16) : (t.toFrame a).count.toNat = t.elementData.length := by
  show (BitVec.ofNat 4 t.elementData.length).toNat = _
  rw [BitVec.toNat_ofNat]
  omega

/-- A frame under its check word (R38). -/
def checkedFrame (f : Frame) : Frame := { f with check := f.computedCheck }

/-- The check word does not cover itself (R38). -/
theorem checkedFrame_check (f : Frame) : (checkedFrame f).check = (checkedFrame f).computedCheck := by
  have hcheck : (checkedFrame f).check = f.computedCheck := by simp only [checkedFrame]
  have hcovered : (checkedFrame f).coveredBits = f.coveredBits := rfl
  rw [hcheck, Frame.computedCheck, Frame.computedCheck, hcovered]

/-- A frame as it is formed carries its check word (R38). -/
theorem toFrame_check (t : TxFrame) (a : Nat) : (t.toFrame a).check = (t.toFrame a).computedCheck := by
  obtain ⟨f, hf⟩ : ∃ f : Frame, t.toFrame a = checkedFrame f := ⟨_, rfl⟩
  rw [hf, checkedFrame_check]

/-- A frame formed from a listed address, with an element count that fits its kind, is valid (R51). -/
theorem toFrame_valid {t : TxFrame} {a : Nat} (ha : 1 ≤ a ∧ a ≤ 60) (hlength : t.elementData.length < 16)
    (hfits : (t.toFrame a).countFits = true) : (t.toFrame a).valid = true := by
  rw [valid_iff]
  have hsender : (t.toFrame a).sender.toNat = a := by
    show (BitVec.ofNat 6 a).toNat = a
    rw [BitVec.toNat_ofNat]
    omega
  refine ⟨?_, toFrame_check t a, by rw [hsender]; exact ha, endMarksRight_markElements _, hfits⟩
  rw [count_toFrame hlength]
  exact markElements_length _

/-! ### STATUS -/

/-- The packed bits of a FLAGS element (Table 12-3). -/
def flagsBits (c : StatusContent) : Bits :=
  packFields [(3, phaseCode c.phase), (2, fogCode c.fog), (1, c.flood.toNat), (1, c.degraded.toNat),
    (1, c.first.toNat), (1, c.cap.isSome.toNat), (1, c.radiant.isSome.toNat), (3, c.demands.length), (3, c.period)]

theorem flagsBits_length (c : StatusContent) : (flagsBits c).length = 16 := by
  rw [flagsBits, packFields_length]
  rfl

theorem flags_toFrame (c : StatusContent) (a : Nat) : ((TxFrame.status c).toFrame a).dataAt 0 = natOfBits (flagsBits c) := by
  rw [dataAt_toFrame]
  exact natOfBits_mod (flagsBits_length c)

/-- Each field of the FLAGS reads back (Table 12-3). -/
theorem flags_read (c : StatusContent) :
    field (natOfBits (flagsBits c)) 15 13 = phaseCode c.phase % 8 ∧ field (natOfBits (flagsBits c)) 12 11 = fogCode c.fog % 4 ∧
      flagBit (natOfBits (flagsBits c)) 10 = c.flood ∧ flagBit (natOfBits (flagsBits c)) 9 = c.degraded ∧
      flagBit (natOfBits (flagsBits c)) 8 = c.first ∧ flagBit (natOfBits (flagsBits c)) 7 = c.cap.isSome ∧
      flagBit (natOfBits (flagsBits c)) 6 = c.radiant.isSome ∧ field (natOfBits (flagsBits c)) 5 3 = c.demands.length % 8 ∧
      field (natOfBits (flagsBits c)) 2 0 = c.period % 8 := by
  have hl := flagsBits_length c
  rw [field_natOfBits hl 15 13 (by decide), field_natOfBits hl 12 11 (by decide), field_natOfBits hl 5 3 (by decide),
    field_natOfBits hl 2 0 (by decide), flagBit_natOfBits hl 10 (by decide), flagBit_natOfBits hl 9 (by decide),
    flagBit_natOfBits hl 8 (by decide), flagBit_natOfBits hl 7 (by decide), flagBit_natOfBits hl 6 (by decide)]
  have hbit : ∀ b : Bool, (b.toNat % 2 == 1) = b := by decide
  simp only [flagsBits, part_packFields_here, part_packFields_skip, Nat.reduceLeDiff, Nat.reduceSub, Nat.reduceAdd, le_refl,
    Nat.reducePow, hbit, and_self]

theorem phaseOfCode_code (p : Phase) : phaseOfCode (phaseCode p % 8) = some p := by
  cases p <;> rfl

theorem fogOfCode_code (x : FogLevel) : fogOfCode (fogCode x % 4) = x := by
  cases x <;> rfl

theorem classOfField_field (c : HeatClass) : classOfField (classField c % 4) = c := by
  cases c <;> rfl

/-- A demand record reads back from the element it forms (Table 12-3). -/
theorem demandOf_demandData {d : Demand} (h : d.amount ≤ 4095) : demandOf (BitVec.ofNat 16 (demandData d)) d.doubt = d := by
  obtain ⟨l, hl⟩ : ∃ l, l = packFields [(2, classField d.cls), (2, d.loop.val), (12, d.amount)] := ⟨_, rfl⟩
  have hlength : l.length = 16 := by rw [hl, packFields_length]; rfl
  have hdata : (BitVec.ofNat 16 (demandData d)).toNat = natOfBits l := by
    rw [BitVec.toNat_ofNat, demandData, ← hl]
    exact natOfBits_mod hlength
  have hclass : field (natOfBits l) 15 14 = classField d.cls % 4 := by
    rw [field_natOfBits hlength 15 14 (by decide), hl]
    exact part_packFields_here ..
  have hloop : field (natOfBits l) 13 12 = d.loop.val % 4 := by
    rw [field_natOfBits hlength 13 12 (by decide), hl, part_packFields_skip _ _ _ _ _ (by decide)]
    exact part_packFields_here ..
  have hamount : field (natOfBits l) 11 0 = d.amount % 4096 := by
    rw [field_natOfBits hlength 11 0 (by decide), hl, part_packFields_skip _ _ _ _ _ (by decide),
      part_packFields_skip _ _ _ _ _ (by decide)]
    exact part_packFields_here ..
  have hfin : Fin.ofNat 4 (d.loop.val % 4) = d.loop := by
    apply Fin.ext
    rw [Fin.val_ofNat]
    omega
  rw [demandOf, hdata, hclass, hloop, hamount, classOfField_field, hfin, Nat.mod_eq_of_lt (by omega)]

/-- The elements behind the FLAGS and the OFFER of a STATUS (Table 12-3). -/
theorem status_elementData (c : StatusContent) : (TxFrame.status c).elementData =
    (flagsData c, false) :: (c.offer, c.offerDoubt) :: (c.cap.toList.map (fun x => (x, false)) ++
      (c.radiant.toList.map (fun x => (x, false)) ++ c.demands.map fun d => (demandData d, d.doubt))) := by
  simp [TxFrame.elementData]

theorem status_elementData_length (c : StatusContent) :
    (TxFrame.status c).elementData.length = 2 + c.cap.isSome.toNat + c.radiant.isSome.toNat + c.demands.length := by
  rw [status_elementData]
  cases c.cap <;> cases c.radiant <;> simp <;> omega

theorem hasCap_toFrame (c : StatusContent) (a : Nat) : ((TxFrame.status c).toFrame a).hasCap = c.cap.isSome := by
  rw [Frame.hasCap, flags_toFrame]
  exact (flags_read c).2.2.2.2.2.1

theorem hasRadiant_toFrame (c : StatusContent) (a : Nat) : ((TxFrame.status c).toFrame a).hasRadiant = c.radiant.isSome := by
  rw [Frame.hasRadiant, flags_toFrame]
  exact (flags_read c).2.2.2.2.2.2.1

/-- The CAP reads back from its place (Table 12-3). -/
theorem cap_toFrame {c : StatusContent} (h : ∀ x, c.cap = some x → x ≤ 65535) (a : Nat) :
    (if c.cap.isSome then some (((TxFrame.status c).toFrame a).dataAt 2) else none) = c.cap := by
  cases hcap : c.cap with
  | none => rfl
  | some x =>
    have hx := h x hcap
    rw [dataAt_toFrame, status_elementData, hcap]
    exact congrArg some (Nat.mod_eq_of_lt (show x < 65536 by omega))

/-- The RADIANT reads back from its place (Table 12-3). -/
theorem radiant_toFrame {c : StatusContent} (h : ∀ x, c.radiant = some x → x ≤ 65535) (a : Nat) :
    (if c.radiant.isSome then some (((TxFrame.status c).toFrame a).dataAt (2 + c.cap.isSome.toNat)) else none) = c.radiant := by
  cases hradiant : c.radiant with
  | none => rfl
  | some x =>
    have hx := h x hradiant
    rw [dataAt_toFrame, status_elementData, hradiant]
    cases c.cap with
    | none => exact congrArg some (Nat.mod_eq_of_lt (show x < 65536 by omega))
    | some y => exact congrArg some (Nat.mod_eq_of_lt (show x < 65536 by omega))

/-- The DEMAND elements read back from their places (Table 12-3). -/
theorem demandList_toFrame {c : StatusContent} (h : ∀ d ∈ c.demands, d.amount ≤ 4095) (a : Nat) :
    (((TxFrame.status c).toFrame a).elements.drop (2 + c.cap.isSome.toNat + c.radiant.isSome.toNat)).map demandOfElement =
      c.demands := by
  have hdrop : (TxFrame.status c).elementData.drop (2 + c.cap.isSome.toNat + c.radiant.isSome.toNat) =
      c.demands.map fun d => (demandData d, d.doubt) := by
    rw [status_elementData]
    cases c.cap <;> cases c.radiant <;> rfl
  rw [demands_toFrame, hdrop, List.map_map]
  calc c.demands.map _ = c.demands.map id := List.map_congr_left fun d hd => demandOf_demandData (h d hd)
    _ = c.demands := List.map_id _

/-- A STATUS formed within its ranges reads back (Tables 12-1 to 12-3). -/
theorem readStatus_toFrame {c : StatusContent} {a : Nat} (hsequence : c.sequence ≤ 15) (hperiod : c.period ≤ 7) (hoffer : c.offer ≤ 65535)
    (hcap : ∀ x, c.cap = some x → x ≤ 65535) (hradiant : ∀ x, c.radiant = some x → x ≤ 65535)
    (hamounts : ∀ d ∈ c.demands, d.amount ≤ 4095) : ((TxFrame.status c).toFrame a).readStatus = some c := by
  obtain ⟨hphase, hfog, hflood, hdegraded, hfirst, -, -, -, hperiod'⟩ := flags_read c
  have hseq : ((TxFrame.status c).toFrame a).sequence.toNat = c.sequence := by
    show (BitVec.ofNat 4 c.sequence).toNat = _
    rw [BitVec.toNat_ofNat]
    omega
  have hoffer' : ((TxFrame.status c).toFrame a).dataAt 1 = c.offer := by
    rw [dataAt_toFrame, status_elementData]
    exact Nat.mod_eq_of_lt (by omega)
  have hdoubt : ((TxFrame.status c).toFrame a).doubtAt 1 = c.offerDoubt := by
    rw [doubtAt_toFrame, status_elementData]
    rfl
  rw [Frame.readStatus, hasCap_toFrame, hasRadiant_toFrame, flags_toFrame, hphase, phaseOfCode_code, Option.map_some, hfog, hflood,
    hdegraded, hfirst, hperiod', fogOfCode_code, hoffer', hdoubt, hseq, cap_toFrame hcap, radiant_toFrame hradiant,
    demandList_toFrame hamounts, Nat.mod_eq_of_lt (show c.period < 8 by omega)]

/-- A STATUS formed with at most four demands is valid (R51). -/
theorem status_valid {c : StatusContent} {a : Nat} (ha : 1 ≤ a ∧ a ≤ 60) (hdemands : c.demands.length ≤ 4) :
    ((TxFrame.status c).toFrame a).valid = true := by
  have hlength := status_elementData_length c
  have hcapmost := Bool.toNat_le c.cap.isSome
  have hradmost := Bool.toNat_le c.radiant.isSome
  have hread : ((TxFrame.status c).toFrame a).demandCount = c.demands.length := by
    obtain ⟨-, -, -, -, -, -, -, hfield, -⟩ := flags_read c
    rw [Frame.demandCount, flags_toFrame, hfield]
    omega
  have hmost : (TxFrame.status c).elementData.length < 16 := by omega
  refine toFrame_valid ha hmost ((countFits_status rfl).mpr ?_)
  rw [hread, hasCap_toFrame, hasRadiant_toFrame, count_toFrame hmost]
  omega

/-! ### CUE and replay -/

/-- The elements of a CUE (Table 12-4). -/
def cueData (c : Cue) (replay : Bool) : List (Nat × Bool) :=
  [(natOfBits (packFields [(8, c.number), (8, c.serial)]), false), (natOfBits (packFields [(6, c.origin), (10, c.wait)]), false),
    (natOfBits (packFields [(3, cuePhaseCode c.phase), (1, replay.toNat), (2, 0), (10, c.fade)]), false)]

/-- The parts of a frame with the elements of a CUE (Table 12-4). -/
theorem cue_read {t : TxFrame} {c : Cue} {replay : Bool} (h : t.elementData = cueData c replay) (a : Nat) :
    field ((t.toFrame a).dataAt 0) 7 0 = c.serial % 256 ∧ field ((t.toFrame a).dataAt 0) 15 8 = c.number % 256 ∧
      field ((t.toFrame a).dataAt 1) 15 10 = c.origin % 64 ∧ field ((t.toFrame a).dataAt 1) 9 0 = c.wait % 1024 ∧
      field ((t.toFrame a).dataAt 2) 15 13 = cuePhaseCode c.phase % 8 ∧ (t.toFrame a).replayMark = replay ∧
      field ((t.toFrame a).dataAt 2) 9 0 = c.fade % 1024 := by
  have hfirst : (packFields [(8, c.number), (8, c.serial)]).length = 16 := by rw [packFields_length]; rfl
  have hsecond : (packFields [(6, c.origin), (10, c.wait)]).length = 16 := by rw [packFields_length]; rfl
  have hthird : (packFields [(3, cuePhaseCode c.phase), (1, replay.toNat), (2, 0), (10, c.fade)]).length = 16 := by
    rw [packFields_length]
    rfl
  have h0 : (t.toFrame a).dataAt 0 = natOfBits (packFields [(8, c.number), (8, c.serial)]) := by
    rw [dataAt_toFrame, h]
    exact natOfBits_mod hfirst
  have h1 : (t.toFrame a).dataAt 1 = natOfBits (packFields [(6, c.origin), (10, c.wait)]) := by
    rw [dataAt_toFrame, h]
    exact natOfBits_mod hsecond
  have h2 : (t.toFrame a).dataAt 2 = natOfBits (packFields [(3, cuePhaseCode c.phase), (1, replay.toNat), (2, 0), (10, c.fade)]) := by
    rw [dataAt_toFrame, h]
    exact natOfBits_mod hthird
  have hbit : ∀ b : Bool, (b.toNat % 2 == 1) = b := by decide
  rw [Frame.replayMark, h0, h1, h2, field_natOfBits hfirst 7 0 (by decide), field_natOfBits hfirst 15 8 (by decide),
    field_natOfBits hsecond 15 10 (by decide), field_natOfBits hsecond 9 0 (by decide), field_natOfBits hthird 15 13 (by decide),
    flagBit_natOfBits hthird 12 (by decide), field_natOfBits hthird 9 0 (by decide)]
  simp only [part_packFields_here, part_packFields_skip, Nat.reduceLeDiff, Nat.reduceSub, Nat.reduceAdd, le_refl,
    Nat.reducePow, hbit, and_self]

theorem cuePhaseOfCode_code (p : Option Phase) : cuePhaseOfCode (cuePhaseCode p % 8) = some p := by
  rcases p with _ | p
  · rfl
  · cases p <;> rfl

/-- A CUE formed within its ranges reads back, where it is a replay or names its sender (R117, Table 12-4). -/
theorem readCue_toFrame {t : TxFrame} {c : Cue} {replay : Bool} {a : Nat} (h : t.elementData = cueData c replay)
    (hnumber : c.number ≤ 255) (hserial : c.serial ≤ 255) (horigin : 1 ≤ c.origin ∧ c.origin ≤ 60) (hwait : c.wait ≤ 600)
    (hfade : c.fade ≤ 600) (hown : replay = false → c.origin = a) : (t.toFrame a).readCue = some c := by
  obtain ⟨hserial', hnumber', horigin', hwait', hphase, hmark, hfade'⟩ := cue_read h a
  obtain ⟨hleast, hmost⟩ := horigin
  rw [Nat.mod_eq_of_lt (by omega)] at hserial' hnumber' horigin' hwait' hfade'
  have hsender : ¬(replay = false ∧ c.origin ≠ (t.toFrame a).sender.toNat) := by
    rintro ⟨hclear, hother⟩
    have hsent : (t.toFrame a).sender.toNat = a := by
      show (BitVec.ofNat 6 a).toNat = a
      rw [BitVec.toNat_ofNat]
      have := hown hclear
      omega
    exact hother ((hown hclear).trans hsent.symm)
  unfold Frame.readCue
  rw [hphase, cuePhaseOfCode_code]
  dsimp only
  rw [horigin', hmark, if_neg (by omega), if_neg hsender, hserial', hnumber', hwait', hfade', Nat.min_eq_right hwait,
    Nat.min_eq_right hfade]

/-- A CUE or a replay formed from its content is valid (R51). -/
theorem cue_valid {t : TxFrame} {c : Cue} {replay : Bool} {a : Nat} (h : t.elementData = cueData c replay) (hk : t.kind = .cue)
    (ha : 1 ≤ a ∧ a ≤ 60) : (t.toFrame a).valid = true := by
  have hlength : t.elementData.length < 16 := by rw [h]; exact (by decide : 3 < 16)
  refine toFrame_valid ha hlength ?_
  have hkind : (t.toFrame a).kind = .cue := hk
  have hcount : (t.toFrame a).count.toNat = 3 := by rw [count_toFrame hlength, h]; rfl
  rw [countFits_iff, hkind, hcount]
  simp

/-- Settles O52: the validity and the content of each kind of frame. -/
theorem framesReadBackAsSent : Obligations.FramesReadBackAsSent := by
  intro address hleast hmost
  have ha : 1 ≤ address ∧ address ≤ 60 := ⟨hleast, hmost⟩
  refine ⟨fun c hsequence hperiod hoffer hcap hradiant hdemands hamounts => ⟨status_valid ha hdemands, rfl, ?_,
    readStatus_toFrame hsequence hperiod hoffer hcap hradiant hamounts⟩, fun on => ⟨?_, rfl, ?_⟩, ⟨?_, rfl⟩,
    fun c hnumber hserial hfrom hto hwait hfade => ⟨fun hown => ?_, ?_⟩⟩
  · show (BitVec.ofNat 6 address).toNat = address
    rw [BitVec.toNat_ofNat]
    omega
  · have hlength : (TxFrame.fog on).elementData.length = 1 := rfl
    refine toFrame_valid ha (by omega) ?_
    have hcount : ((TxFrame.fog on).toFrame address).count.toNat = 1 := count_toFrame (by omega)
    exact decide_eq_true hcount
  · have hdata : ((TxFrame.fog on).toFrame address).dataAt 0 = if on then 1 else 2 := by
      rw [dataAt_toFrame]
      cases on <;> rfl
    rw [Frame.readFog, hdata]
    cases on <;> rfl
  · have hlength : TxFrame.recall.elementData.length = 0 := rfl
    refine toFrame_valid ha (by omega) ?_
    have hcount : (TxFrame.recall.toFrame address).count.toNat = 0 := count_toFrame (by omega)
    exact decide_eq_true hcount
  · have h : (TxFrame.cue c).elementData = cueData c false := rfl
    obtain ⟨-, -, -, -, -, hmark, -⟩ := cue_read h address
    exact ⟨cue_valid h rfl ha, hmark, readCue_toFrame h hnumber hserial ⟨hfrom, hto⟩ hwait hfade fun _ => hown⟩
  · have h : (TxFrame.replay c).elementData = cueData c true := rfl
    obtain ⟨-, -, -, -, -, hmark, -⟩ := cue_read h address
    exact ⟨cue_valid h rfl ha, hmark, readCue_toFrame h hnumber hserial ⟨hfrom, hto⟩ hwait hfade nofun⟩

end Sys2Proof.Machine

/-!
PROOFS. The ice evaluation (O53): each of its steps by the conditions that it judges, and what the evaluation reaches (R59 to R69).
-/
namespace Sys2Proof.Machine

/-! ### The steps -/

/-- The ring after a push: the ten latest values (R63). -/
theorem pushRing_eq (ring : List Int) (x : Int) : pushRing 10 ring x = (ring ++ [x]).drop (ring.length + 1 - 10) := by
  rw [pushRing, List.length_append, List.length_singleton]

/-- A surface that reads FAILED holds the margin and empties the ring (R61, R63). -/
theorem surfaceFailed_iff {x : IceInputs} : x.surfaceFailed = true ↔ x.surface.quality = .failed := decide_eq_true_iff

/-- The flood step's detection (R64). -/
theorem floodDetected_iff (cfg : IceConfig) (x : IceInputs) (i : IceLive) : floodDetected cfg x i = true ↔
    x.surface.quality ≠ .failed ∧ i.ring.length = 10 ∧ (x.phase = .interval ∨ x.phase = .idle) ∧
      cfg.floodRise ≤ x.surface.value - i.ring.headD 0 := by
  simp [floodDetected, IceInputs.surfaceFailed, and_assoc]

/-- The settled radiant's rise is never negative in the predicted margin (R68). -/
theorem predictedMargin_eq (cfg : IceConfig) (margin : Int) (total : Nat) (settled : Int) : predictedMargin cfg margin total settled =
    max (-500) (min 500 (margin - max 0 ((total : Int) - settled) * cfg.sensitivity / 1000)) := by
  rw [predictedMargin, clamp, floorDiv, Int.fdiv_eq_ediv_of_nonneg _ (by decide)]

/-- The cap between the two margins (R69). -/
theorem ownCap_between {cfg : IceConfig} {failures : Nat} {state : IceState} {p : Int} (hf : failures ≠ 61) (hs : state ≠ .warm)
    (hupper : p < cfg.upper) (hlower : cfg.lower < p) :
    ((ownCap cfg failures state p : Nat) : Int) =
      cfg.floor + (1000 - (cfg.floor : Int)) * (p - cfg.lower) / (cfg.upper - cfg.lower) := by
  rw [ownCap, if_neg hf, if_neg hs, if_neg (Int.not_le.mpr hupper), if_neg (Int.not_le.mpr hlower), floorDiv,
    Int.fdiv_eq_ediv_of_nonneg _ (by omega)]
  refine Int.toNat_of_nonneg ?_
  have hspan : 0 < cfg.upper - cfg.lower := by omega
  have hle : -(cfg.floor : Int) ≤ (1000 - (cfg.floor : Int)) * (p - cfg.lower) / (cfg.upper - cfg.lower) := by
    rw [Int.le_ediv_iff_mul_le hspan]
    nlinarith [Int.natCast_nonneg cfg.floor]
  omega

/-! ### What an evaluation reaches -/

/-- The record after an evaluation of a surface that reads r (R59). -/
theorem evaluateIce_of_some {s : State} {r : Reading} (hr : readBinding s .iceSurface = some r) :
    ∃ i t, i = s.ice.evaluate s.cfg.ice (iceInputs s r) ∧ s.evaluateIce = t ∧
      t = ((s.setIce i).setNode { s.node with causes := t.node.causes }).setFog { s.fog with floodInView := t.fog.floodInView } ∧
      CausesAfter s t 8 (if s.ice.state ≠ .warm ∧ i.state = .warm then 1 else 0) ∧
      ((0 < s.ice.floodTimer ↔ 0 < i.floodTimer) → t.fog = s.fog) ∧
      (¬(0 < s.ice.floodTimer ↔ 0 < i.floodTimer) →
        (t.fog.floodInView = true ↔ 0 < i.floodTimer ∨ ∃ e ∈ s.peers, e.flood = true)) := by
  obtain ⟨i, hi⟩ : ∃ i, i = s.ice.evaluate s.cfg.ice (iceInputs s r) := ⟨_, rfl⟩
  obtain ⟨u, hu⟩ : ∃ u, u = (s.setIce i).raiseIf (decide (s.ice.state ≠ .warm) && decide (i.state = .warm)) .iceWarm := ⟨_, rfl⟩
  have heval : s.evaluateIce = if s.ice.flood = i.flood then u else u.rederiveFlood := by
    simp only [State.evaluateIce, hr, hi, hu]
  have hwhole := raiseIf_eq (s.setIce i) (decide (s.ice.state ≠ .warm) && decide (i.state = .warm)) .iceWarm
  have hcauses := raiseIf_after (s.setIce i) (decide (s.ice.state ≠ .warm) && decide (i.state = .warm)) .iceWarm
  rw [← hu] at hwhole hcauses
  have hcauses' : CausesAfter s u 8 (if s.ice.state ≠ .warm ∧ i.state = .warm then 1 else 0) := by
    simp only [Bool.and_eq_true, decide_eq_true_eq] at hcauses
    exact hcauses.congr rfl rfl
  have hflood : s.ice.flood = i.flood ↔ (0 < s.ice.floodTimer ↔ 0 < i.floodTimer) := by
    simp [IceLive.flood]
  have hfog : u.fog = s.fog := by rw [hwhole]; rfl
  by_cases hsame : s.ice.flood = i.flood
  · rw [if_pos hsame] at heval
    refine ⟨i, u, hi, heval, ?_, hcauses', fun _ => hfog, fun hno => absurd (hflood.mp hsame) hno⟩
    rw [hfog]
    exact hwhole
  · rw [if_neg hsame] at heval
    refine ⟨i, u.rederiveFlood, hi, heval, ?_, hcauses', fun hyes => absurd (hflood.mpr hyes) hsame, fun _ => ?_⟩
    · calc u.rederiveFlood = u.setFog { u.fog with floodInView := u.rederiveFlood.fog.floodInView } := rfl
        _ = _ := by
          rw [hfog]
          exact congrArg (State.setFog · { s.fog with floodInView := u.rederiveFlood.fog.floodInView }) hwhole
    · have hice : u.ice = i := by rw [hwhole]; rfl
      have hpeers : u.peers = s.peers := by rw [hwhole]; rfl
      have hview : u.rederiveFlood.fog.floodInView = (u.ice.flood || u.peers.any fun e => e.flood) := rfl
      rw [hview, hice, hpeers, IceLive.flood, Bool.or_eq_true, decide_eq_true_eq, List.any_eq_true]

/-- The evaluation timer of an operating node with a surface (R59). -/
theorem iceTimerRuns_of_some {s : State} {r : Reading} (hop : operatingIn s.node.state = true) (hr : readBinding s .iceSurface = some r) :
    iceTimerRuns s = true := by
  have hice : hasIce s.cfg = true := by
    have h := congrArg Option.isSome hr
    rwa [readBinding, Option.isSome_map] at h
  rw [iceTimerRuns, hice, Bool.and_true]
  exact hop

/-- Settles O53: each step on the record that the evaluation writes, and the rows at the same evaluation. -/
theorem iceEvaluationTakesItsSteps : Obligations.IceEvaluationTakesItsSteps := by
  intro s r hop hr
  obtain ⟨i, t, hi, heval, hreaches, hcauses, hstands, hrederived⟩ := evaluateIce_of_some hr
  have hruns := iceTimerRuns_of_some hop hr
  have hexec : exec .iceEvaluation s = .next t := by
    rw [← heval]
    exact takenIf_of_true hruns
  have hice : s.evaluateIce.ice = i := by rw [heval, hreaches]; rfl
  obtain ⟨x, hx⟩ : ∃ x, x = iceInputs s r := ⟨_, rfl⟩
  rw [← hx] at hi
  have hquality : x.surfaceFailed = true ↔ r.quality = .failed := by rw [hx]; exact surfaceFailed_iff
  have hmargin : i.margin = iceMargin s.cfg.ice x s.ice := by rw [hi]; rfl
  have hfailures : i.failureCount = iceFailureCount x s.ice := by rw [hi]; rfl
  have hring : i.ring = floodRingAfter x s.ice := by rw [hi]; rfl
  have htimer : i.floodTimer = floodTimerAfter s.cfg.ice x s.ice := by rw [hi]; rfl
  have hrun : i.warmRun = if i.failureCount = 61 then s.ice.warmRun else
      warmRunAfter i.margin (decide (0 < i.floodTimer)) s.ice.warmRun := by rw [hi]; rfl
  have hstate : i.state = if i.failureCount = 61 then s.ice.state else
      iceStateAfter s.cfg.ice i.margin i.warmRun s.ice.state := by rw [hi]; rfl
  have hcap : i.cap = ownCap s.cfg.ice i.failureCount i.state i.predicted := by rw [hi]; rfl
  have htotal : i.total = radiantTotal s.light.radiant s.peers := by rw [hi, hx]; rfl
  have hpredicted : i.predicted = predictedMargin s.cfg.ice i.margin i.total (settledAtStart i.total s.ice) := by rw [hi]; rfl
  have hsettled : i.settled = some (settledAfter i.total (settledAtStart i.total s.ice)) := by rw [hi]; rfl
  have hdetects : floodDetected s.cfg.ice x s.ice = true ↔ r.quality ≠ .failed ∧ s.ice.ring.length = 10 ∧
      (s.light.phase = .interval ∨ s.light.phase = .idle) ∧ s.cfg.ice.floodRise ≤ r.value - s.ice.ring.headD 0 := by
    rw [hx]
    exact floodDetected_iff _ _ _
  refine ⟨t, i, i.total, settledAtStart i.total s.ice, i.margin, i.predicted, hexec, by rw [hreaches]; rfl, hreaches, htotal, rfl, rfl,
    rfl, fun hgood => ?_, fun hbad => ?_, fun hheld => ?_, fun hjudged => ?_, rfl, ?_, hsettled, fun hfloor => ?_,
    fun hcounts hcold => ⟨fun hupper => ?_, fun hupper hlower => ?_, fun hupper hlower => ?_⟩, hcauses, hstands, hrederived,
    fun hone hno => ?_, fun hcold hwarm => ?_, fun hbad hsixty => ?_⟩
  · have hfailed : ¬x.surfaceFailed = true := fun h => hgood (hquality.mp h)
    refine ⟨by rw [hfailures, iceFailureCount, if_neg hfailed], ?_, ?_, ?_⟩
    · rw [hmargin, iceMargin, if_neg hfailed, hx]
      rfl
    · rw [hring, floodRingAfter, if_neg hfailed, pushRing_eq, hx]
      rfl
    · rw [htimer, floodTimerAfter]
      refine if_congr ?_ rfl rfl
      rw [hdetects]
      exact and_iff_right hgood
  · have hfailed := hquality.mpr hbad
    refine ⟨by rw [hfailures, iceFailureCount, if_pos hfailed], by rw [hmargin, iceMargin, if_pos hfailed],
      by rw [hring, floodRingAfter, if_pos hfailed], ?_⟩
    rw [htimer, floodTimerAfter, if_neg fun h => (hdetects.mp h).1 hbad]
  · rw [if_pos hheld] at hrun hstate
    exact ⟨hrun, hstate⟩
  · rw [if_neg hjudged] at hrun hstate
    refine ⟨?_, fun hfirm => ?_, fun hsoft hwatch => ?_, fun hneg hwatch hfull => ?_, fun hneg hwatch hless => ?_⟩
    · rw [hrun, warmRunAfter]
      refine if_congr (and_congr_right fun _ => ?_) rfl rfl
      rw [Bool.not_eq_true', decide_eq_false_iff_not]
      omega
    · rw [hstate, iceStateAfter, if_pos hfirm]
    · rw [hstate, iceStateAfter, if_neg (by omega), if_pos hsoft]
    · rw [hstate, iceStateAfter, if_neg (by omega), if_neg (by omega), if_pos hfull, ite_self]
    · rw [hstate, iceStateAfter, if_neg (by omega), if_neg (by omega), if_neg (show ¬i.warmRun = 30 by omega)]
  · rw [hpredicted, predictedMargin_eq]
  · rw [hcap, ownCap]
    obtain hheld | hwarm := hfloor
    · rw [if_pos hheld]
    · rw [if_pos hwarm, ite_self]
  · rw [hcap, ownCap, if_neg hcounts, if_neg hcold, if_pos hupper]
  · rw [hcap, ownCap, if_neg hcounts, if_neg hcold, if_neg (Int.not_le.mpr hupper), if_pos hlower]
  · rw [hcap]
    exact ownCap_between hcounts hcold hupper hlower
  · have hzero : i.floodTimer = 0 := by
      rw [htimer, floodTimerAfter, if_neg fun h => hno (hdetects.mp h), hone]
    refine ⟨hzero, ?_⟩
    rw [hexec, ← heval]
    refine takenIf_of_true ?_
    rw [hruns, hice, IceLive.flood, IceLive.flood, hone, hzero]
    rfl
  · rw [hexec, ← heval]
    refine takenIf_of_true ?_
    rw [hruns, hice, decide_eq_true hcold, decide_eq_true hwarm]
    rfl
  · have hlast : i.failureCount = 61 := by
      rw [hfailures, iceFailureCount, if_pos (hquality.mpr hbad), hsixty]
      rfl
    rw [hexec, ← heval]
    refine takenIf_of_true ?_
    rw [hruns, hice, hlast, hsixty]
    rfl

end Sys2Proof.Machine

/-!
PROOFS. The fog evaluation (O54, O55): the margin steps, the beam step, and what the evaluation reaches (R74 to R87).
-/
namespace Sys2Proof.Machine

/-! ### The margin steps -/

/-- A node with a margin path reads all three margin inputs (R74). -/
theorem marginInputs_isSome (s : State) : (marginInputs s).isSome = hasMarginPath s.cfg := by
  have hread : ∀ b, bound s.cfg b = (readBinding s b).isSome := fun b => (Option.isSome_map ..).symm
  rw [hasMarginPath, hread, hread, hread, marginInputs]
  cases readBinding s .bowlAirT <;> cases readBinding s .bowlAirRh <;> cases readBinding s .iceLayerAir <;> rfl

theorem marginInputs_of_some {s : State} {bt rh il : Reading} (hbt : readBinding s .bowlAirT = some bt)
    (hrh : readBinding s .bowlAirRh = some rh) (hil : readBinding s .iceLayerAir = some il) :
    marginInputs s = some { bowl := bt, humidity := rh, layer := il } := by
  simp only [marginInputs, hbt, hrh, hil]

/-- A missing binding leaves a node without a margin path (R74). -/
theorem marginInputs_of_unbound {s : State}
    (h : bound s.cfg .bowlAirT = false ∨ bound s.cfg .bowlAirRh = false ∨ bound s.cfg .iceLayerAir = false) : marginInputs s = none := by
  rw [← Option.not_isSome_iff_eq_none, marginInputs_isSome, hasMarginPath]
  obtain h | h | h := h <;> simp [h]

theorem anyFailed_iff (x : MarginInputs) :
    x.anyFailed = true ↔ x.bowl.quality = .failed ∨ x.humidity.quality = .failed ∨ x.layer.quality = .failed := by
  simp [MarginInputs.anyFailed, or_assoc]

theorem dewPointOf_eq (bowl humidity : Int) : dewPointOf bowl humidity = bowl - (1000 - max 500 (min 1000 humidity)) / 5 := by
  rw [dewPointOf, clamp, floorDiv, Int.fdiv_eq_ediv_of_nonneg _ (by decide)]

theorem effectiveMargin_eq (cfg : FogConfig) (margin : Int) (flood : Bool) : effectiveMargin cfg margin flood =
    max (-500) (min 500 (margin - if flood then cfg.allowance else 0)) := by
  cases flood
  · rw [effectiveMargin, clamp, if_neg (by decide), if_neg (by decide), Int.sub_zero]
  · rfl

/-- The judgement with hysteresis by the margin state before (Table 5-3). -/
theorem judgeMargin_cases (cfg : FogConfig) (eff : Int) (before : FogLevel) :
    (before = .clear → judgeMargin cfg eff before = if eff ≤ cfg.act then .act else if eff ≤ cfg.watch then .watch else .clear) ∧
    (before = .watch → judgeMargin cfg eff before =
      if eff ≤ cfg.act then .act else if cfg.watch + cfg.hysteresis < eff then .clear else .watch) ∧
    (before = .act → judgeMargin cfg eff before =
      if cfg.watch + cfg.hysteresis < eff then .clear else if cfg.act + cfg.hysteresis < eff then .watch else .act) := by
  refine ⟨?_, ?_, ?_⟩ <;> rintro rfl <;> rfl

/-- What the margin steps leave of Fog Guard (R76 to R79). -/
theorem judged_keeps (cfg : FogConfig) (margin : Option MarginInputs) (f : FogLive) :
    (f.judged cfg margin).beamFog = f.beamFog ∧ (f.judged cfg margin).beamActive = f.beamActive ∧
      (f.judged cfg margin).belowRun = f.belowRun ∧ (f.judged cfg margin).clearRun = f.clearRun := by
  cases margin <;> exact ⟨rfl, rfl, rfl, rfl⟩

/-! ### The beam step -/

/-- The beam step reads the margin and leaves it (R80 to R82). -/
theorem beamStep_margins (cfg : FogConfig) (hasMargin : Bool) (beam : Option Reading) (f : FogLive) :
    (f.beamStep cfg hasMargin beam).dewPoint = f.dewPoint ∧ (f.beamStep cfg hasMargin beam).margin = f.margin ∧
      (f.beamStep cfg hasMargin beam).effective = f.effective ∧ (f.beamStep cfg hasMargin beam).failureCount = f.failureCount := by
  unfold FogLive.beamStep FogLive.beamLost FogLive.beamClearing FogLive.beamWatch
  dsimp only
  (repeat' split) <;> exact ⟨rfl, rfl, rfl, rfl⟩

theorem beamStep_of_failed {cfg : FogConfig} {hasMargin : Bool} {r : Reading} {f : FogLive} (h : r.quality = .failed) :
    f.beamStep cfg hasMargin (some r) = f.beamLost cfg hasMargin := if_pos h

theorem beamStep_of_watch {cfg : FogConfig} {hasMargin : Bool} {r : Reading} {f : FogLive} (h : r.quality ≠ .failed)
    (hclear : f.beamFog = false) : f.beamStep cfg hasMargin (some r) = f.beamWatch cfg r.value :=
  (if_neg h).trans (if_neg (by rw [hclear]; decide))

theorem beamStep_of_clearing {cfg : FogConfig} {hasMargin : Bool} {r : Reading} {f : FogLive} (h : r.quality ≠ .failed)
    (hset : f.beamFog = true) : f.beamStep cfg hasMargin (some r) = f.beamClearing cfg hasMargin r.value :=
  (if_neg h).trans (if_pos hset)

/-- A reading at the threshold or above ends the run below it (R80). -/
theorem beamWatch_of_above {cfg : FogConfig} {b : Int} (h : cfg.beamThreshold ≤ b) (f : FogLive) :
    f.beamWatch cfg b = { f with beamActive := true, belowRun := 0 } := by
  rw [FogLive.beamWatch, if_neg (Int.not_lt.mpr h)]
  exact if_neg fun hb => absurd hb.1 (Int.not_lt.mpr h)

/-- A run below the threshold that is not yet long enough (R80). -/
theorem beamWatch_of_short {cfg : FogConfig} {b : Int} {f : FogLive} (h : b < cfg.beamThreshold) (hshort : f.belowRun + 1 < cfg.beamHold) :
    f.beamWatch cfg b = { f with beamActive := true, belowRun := f.belowRun + 1 } := by
  rw [FogLive.beamWatch, if_pos h]
  exact if_neg fun hb => absurd hb.2 (Nat.not_le.mpr hshort)

/-- The run below the threshold that sets beam fog (R80). -/
theorem beamWatch_of_sets {cfg : FogConfig} {b : Int} {f : FogLive} (h : b < cfg.beamThreshold) (hlong : cfg.beamHold ≤ f.belowRun + 1) :
    f.beamWatch cfg b = { f with beamActive := true, beamFog := true, belowRun := 0, clearRun := 0 } := by
  rw [FogLive.beamWatch, if_pos h]
  exact if_pos ⟨h, hlong⟩

/-- A reading under the clearing threshold ends the clear run (R81). -/
theorem beamClearing_of_below {cfg : FogConfig} {b : Int} (h : b < cfg.beamThreshold + cfg.beamHysteresis) (hasMargin : Bool) (f : FogLive) :
    f.beamClearing cfg hasMargin b = { f with beamActive := true, clearRun := 0 } := by
  rw [FogLive.beamClearing, if_neg (Int.not_le.mpr h)]
  exact if_neg fun hb => absurd hb.1 (Int.not_le.mpr h)

/-- A clear run that is not yet long enough (R81). -/
theorem beamClearing_of_short {cfg : FogConfig} {b : Int} {f : FogLive} (h : cfg.beamThreshold + cfg.beamHysteresis ≤ b) (hasMargin : Bool)
    (hshort : f.clearRun + 1 < cfg.clearTime) : f.beamClearing cfg hasMargin b = { f with beamActive := true, clearRun := f.clearRun + 1 } := by
  rw [FogLive.beamClearing, if_pos h]
  exact if_neg fun hb => absurd hb.2 (Nat.not_le.mpr hshort)

/-- The clear run that ends beam fog (R81). -/
theorem beamClearing_of_ends {cfg : FogConfig} {b : Int} {f : FogLive} (h : cfg.beamThreshold + cfg.beamHysteresis ≤ b) (hasMargin : Bool)
    (hlong : cfg.clearTime ≤ f.clearRun + 1) : f.beamClearing cfg hasMargin b =
      { f with beamActive := true, beamFog := false, clearRun := 0, marginState := marginOnLeaving cfg hasMargin f } := by
  rw [FogLive.beamClearing, if_pos h]
  exact if_pos ⟨h, hlong⟩

/-- A usable reading makes the beam path ACTIVE (R80, R81). -/
theorem beamStep_active {cfg : FogConfig} {hasMargin : Bool} {r : Reading} {f : FogLive} (h : r.quality ≠ .failed) :
    (f.beamStep cfg hasMargin (some r)).beamActive = true := by
  cases hbeam : f.beamFog with
  | false =>
    rw [beamStep_of_watch h hbeam, FogLive.beamWatch]
    generalize (if r.value < cfg.beamThreshold then f.belowRun + 1 else 0) = run
    split <;> rfl
  | true =>
    rw [beamStep_of_clearing h hbeam, FogLive.beamClearing]
    generalize (if cfg.beamThreshold + cfg.beamHysteresis ≤ r.value then f.clearRun + 1 else 0) = run
    split <;> rfl

/-- Leaving beam fog takes the judgement without hysteresis; any other beam step leaves the margin state (R79 to R82). -/
theorem beamStep_marginState (cfg : FogConfig) (hasMargin : Bool) (beam : Option Reading) (f : FogLive) :
    (f.beamStep cfg hasMargin beam).marginState =
      if f.beamFog = true ∧ (f.beamStep cfg hasMargin beam).beamFog = false then marginOnLeaving cfg hasMargin f else f.marginState := by
  cases beam with
  | none =>
    exact (if_neg (by rintro ⟨hset, hclear⟩; exact absurd (hset.symm.trans hclear) (by decide))).symm
  | some r =>
    by_cases hfailed : r.quality = .failed
    · rw [beamStep_of_failed hfailed, FogLive.beamLost]
      refine if_congr ?_ rfl rfl
      exact (and_iff_left rfl).symm
    · cases hbeam : f.beamFog with
      | false =>
        rw [beamStep_of_watch hfailed hbeam, beamWatch_marginState, if_neg (by simp)]
      | true =>
        rw [beamStep_of_clearing hfailed hbeam]
        by_cases habove : cfg.beamThreshold + cfg.beamHysteresis ≤ r.value
        · by_cases hlong : cfg.clearTime ≤ f.clearRun + 1
          · rw [beamClearing_of_ends habove hasMargin hlong]
            exact (if_pos ⟨rfl, rfl⟩).symm
          · rw [beamClearing_of_short habove hasMargin (Nat.not_le.mp hlong)]
            refine (if_neg ?_).symm
            rintro ⟨-, hclear⟩
            exact absurd (hbeam.symm.trans hclear) (by decide)
        · rw [beamClearing_of_below (Int.not_le.mp habove)]
          refine (if_neg ?_).symm
          rintro ⟨-, hclear⟩
          exact absurd (hbeam.symm.trans hclear) (by decide)

/-! ### What an evaluation reaches -/

/-- A FOG frame offered (R46). -/
theorem offer_fogFrame (s : State) (on : Bool) : s.offer (.fog on) = s.setLine { s.line with queue := { s.line.queue with
    fogPlace := if mayTransmitIn s.node.state = true then some { frame := .fog on, attempt := 0 } else s.line.queue.fogPlace } } := by
  unfold State.offer
  by_cases hmay : mayTransmitIn s.node.state = true
  · rw [if_pos hmay, if_pos (by rfl), if_pos hmay]
    rfl
  · rw [if_neg hmay, if_neg hmay]
    rfl

/-- The FOG frame that a change between beam fog and none calls for (R84). -/
theorem offerFogChange_eq (s : State) (before : FogLevel) (b b' : Bool) (hbefore : before = .fog ↔ b = true)
    (hown : s.fog.own = .fog ↔ b' = true) : s.offerFogChange before = s.setLine { s.line with queue := { s.line.queue with
      fogPlace := if mayTransmitIn s.node.state = true ∧ b ≠ b' then some { frame := .fog b', attempt := 0 }
        else s.line.queue.fogPlace } } := by
  have hsame : ∀ x : Bool, s = s.setLine { s.line with queue := { s.line.queue with
      fogPlace := if mayTransmitIn s.node.state = true ∧ x ≠ x then some { frame := .fog x, attempt := 0 }
        else s.line.queue.fogPlace } } := fun x => by
    rw [if_neg (by simp)]
    rfl
  unfold State.offerFogChange
  cases b with
  | false =>
    have hno : before ≠ .fog := by simpa using hbefore
    cases b' with
    | false =>
      have hown' : s.fog.own ≠ .fog := by simpa using hown
      rw [if_neg fun h => hown' h.1, if_neg fun h => hno h.2]
      exact hsame false
    | true =>
      rw [if_pos ⟨hown.mpr rfl, hno⟩, offer_fogFrame]
      simp
  | true =>
    have hyes : before = .fog := hbefore.mpr rfl
    cases b' with
    | false =>
      have hown' : s.fog.own ≠ .fog := by simpa using hown
      rw [if_neg fun h => hown' h.1, if_pos ⟨hown', hyes⟩, offer_fogFrame]
      simp
    | true =>
      rw [if_neg fun h => h.2 hyes, if_neg fun h => h.1 (hown.mpr rfl)]
      exact hsame true

/-- A cause that was not raised stands with the others. -/
theorem CausesAfter.zero_eq {s t : State} {i : Fin 12} (h : CausesAfter s t i 0) : t.node.causes = s.node.causes := by
  obtain ⟨hothers, hself⟩ := h
  refine vector_eq_of_getElem fun j => ?_
  by_cases hj : j = i
  · rw [hj, hself, if_pos rfl]
  · exact hothers j hj

/-- What a fog evaluation reaches: Fog Guard's record with E and what follows it, the causes, and the FOG place (R75, R83 to R85). -/
theorem evaluateFog_reaches {s : State} (h : FogLegal s) :
    ∃ f t, f = s.fog.evaluate s.cfg.fog (marginInputs s) (readBinding s .fogBeam) ∧ s.evaluateFog = t ∧ FogLegal t ∧
      t.fog = { f with
        effectiveLevel := t.fog.effectiveLevel, regen := t.fog.regen, curtail := t.fog.curtail, fanDemand := t.fog.fanDemand } ∧
      t = ((s.setFog t.fog).setNode { s.node with causes := t.node.causes }).setLine
        { s.line with queue := { s.line.queue with fogPlace := t.line.queue.fogPlace } } ∧
      CausesAfter s t 9 (if s.fog.beamFog = false ∧ f.beamFog = true then 1 else 0) ∧
      t.line.queue.fogPlace = (if mayTransmitIn s.node.state = true ∧ s.fog.beamFog ≠ f.beamFog then
        some { frame := .fog f.beamFog, attempt := 0 } else s.line.queue.fogPlace) := by
  obtain ⟨f, hf⟩ : ∃ f, f = s.fog.evaluate s.cfg.fog (marginInputs s) (readBinding s .fogBeam) := ⟨_, rfl⟩
  obtain ⟨u, hu⟩ : ∃ u, u = (s.setFog f).raiseIf (!s.fog.beamFog && f.beamFog) .fogVisible := ⟨_, rfl⟩
  have heval : s.evaluateFog = if f.own = s.fog.own then u else u.rederiveE.offerFogChange s.fog.own := by rw [hu, hf]; rfl
  have hlegal := evaluateFog_fogLegal h
  have hwhole := raiseIf_eq (s.setFog f) (!s.fog.beamFog && f.beamFog) .fogVisible
  have hcauses := raiseIf_after (s.setFog f) (!s.fog.beamFog && f.beamFog) .fogVisible
  rw [← hu] at hwhole hcauses
  simp only [Bool.and_eq_true, Bool.not_eq_true'] at hcauses
  have hufog : u.fog = f := by rw [hwhole]; rfl
  have huline : u.line = s.line := by rw [hwhole]; rfl
  have hustate : u.node.state = s.node.state := by rw [hwhole]; rfl
  obtain ⟨-, hown⟩ := fogEvaluate_own s.cfg.fog (marginInputs s) (readBinding s .fogBeam) s.fog
  rw [← hf] at hown
  obtain ⟨-, hbefore, -⟩ := id h
  by_cases hsame : f.own = s.fog.own
  · rw [if_pos hsame] at heval
    rw [heval] at hlegal
    have hbeam : s.fog.beamFog = f.beamFog := by rw [Bool.eq_iff_iff, ← hbefore, ← hown, hsame]
    refine ⟨f, u, hf, heval, hlegal, by rw [hufog], ?_, hcauses, ?_⟩
    · rw [hufog, huline]
      exact hwhole
    · rw [huline, if_neg fun hchange => hchange.2 hbeam]
  · rw [if_neg hsame, offerFogChange_eq u.rederiveE s.fog.own s.fog.beamFog f.beamFog hbefore (by rw [← hown, ← hufog]; rfl)] at heval
    obtain ⟨t, ht⟩ : ∃ t, s.evaluateFog = t := ⟨_, rfl⟩
    rw [ht] at heval hlegal
    have hplace : t.line.queue.fogPlace = if mayTransmitIn s.node.state = true ∧ s.fog.beamFog ≠ f.beamFog then
        some { frame := .fog f.beamFog, attempt := 0 } else s.line.queue.fogPlace := by
      rw [← hustate, ← huline, heval]
      rfl
    have hline : t.line = { s.line with queue := { s.line.queue with fogPlace := t.line.queue.fogPlace } } := by
      rw [← huline, heval]
      rfl
    have htnode : t.node = u.node := by rw [heval]; rfl
    refine ⟨f, t, hf, ht, hlegal, ?_, ?_, hcauses.congr rfl (by rw [htnode]), hplace⟩
    · rw [← hufog, heval]
      rfl
    · rw [← hline, htnode]
      calc t = (u.setFog t.fog).setLine t.line := by rw [heval]; rfl
        _ = _ := congrArg (fun x : State => (x.setFog t.fog).setLine t.line) hwhole

/-- The rows of the fog evaluation are taken where their own condition holds (R77, R80, R81). -/
theorem exec_fogEvaluation {s : State} (hop : operatingIn s.node.state = true) : exec .fogEvaluation s = .next s.evaluateFog :=
  takenIf_of_true hop

/-- The margin fields after an evaluation are those of the margin steps (R75). -/
theorem fogEvaluate_margins (cfg : FogConfig) (margin : Option MarginInputs) (beam : Option Reading) (f : FogLive) :
    (f.evaluate cfg margin beam).dewPoint = (f.judged cfg margin).dewPoint ∧
      (f.evaluate cfg margin beam).margin = (f.judged cfg margin).margin ∧
      (f.evaluate cfg margin beam).effective = (f.judged cfg margin).effective ∧
      (f.evaluate cfg margin beam).failureCount = (f.judged cfg margin).failureCount := by
  rw [fogEvaluate_eq]
  exact beamStep_margins cfg margin.isSome beam (f.judged cfg margin)

/-- The beam fields after an evaluation are those of the beam step on the record before it (R75). -/
theorem fogEvaluate_beam (cfg : FogConfig) (margin : Option MarginInputs) (beam : Option Reading) (f : FogLive) :
    ∃ g, g = f.judged cfg margin ∧ g.beamFog = f.beamFog ∧ g.beamActive = f.beamActive ∧ g.belowRun = f.belowRun ∧ g.clearRun = f.clearRun ∧
      (f.evaluate cfg margin beam).beamFog = (g.beamStep cfg margin.isSome beam).beamFog ∧
      (f.evaluate cfg margin beam).beamActive = (g.beamStep cfg margin.isSome beam).beamActive ∧
      (f.evaluate cfg margin beam).belowRun = (g.beamStep cfg margin.isSome beam).belowRun ∧
      (f.evaluate cfg margin beam).clearRun = (g.beamStep cfg margin.isSome beam).clearRun := by
  obtain ⟨hbeam, hactive, hbelow, hclear⟩ := judged_keeps cfg margin f
  rw [fogEvaluate_eq]
  exact ⟨_, rfl, hbeam, hactive, hbelow, hclear, rfl, rfl, rfl, rfl⟩

/-- The margin state after an evaluation: without hysteresis on leaving beam fog, and else as the margin steps judge it (R79, R81). -/
theorem fogEvaluate_marginState (cfg : FogConfig) (margin : Option MarginInputs) (beam : Option Reading) (f : FogLive) :
    (f.evaluate cfg margin beam).marginState =
      if f.beamFog = true ∧ (f.evaluate cfg margin beam).beamFog = false then
        marginOnLeaving cfg margin.isSome (f.judged cfg margin) else (f.judged cfg margin).marginState := by
  obtain ⟨hbeam, -⟩ := judged_keeps cfg margin f
  have h := beamStep_marginState cfg margin.isSome beam (f.judged cfg margin)
  rw [hbeam] at h
  rw [fogEvaluate_eq]
  exact h

theorem fogEvaluate_ownState (cfg : FogConfig) (margin : Option MarginInputs) (beam : Option Reading) (f : FogLive) :
    (f.evaluate cfg margin beam).own =
      if (f.evaluate cfg margin beam).beamFog then .fog else (f.evaluate cfg margin beam).marginState := by
  rw [fogEvaluate_eq]

/-- Settles O54: the margin steps with a margin path and without, and what follows E. -/
theorem fogEvaluationJudgesTheMargin : Obligations.FogEvaluationJudgesTheMargin := by
  intro s hop hlegal
  obtain ⟨f, t, hf, heval, htlegal, hfog, hreaches, hcauses, hplace⟩ := evaluateFog_reaches hlegal
  have hexec : exec .fogEvaluation s = .next t := by rw [exec_fogEvaluation hop, heval]
  have hpeers : t.peers = s.peers := by rw [hreaches]; rfl
  have hcfg : t.cfg = s.cfg := by rw [hreaches]; rfl
  have hstate : t.node.state = s.node.state := by rw [hreaches]; rfl
  obtain ⟨hdew, hmargin, heffective, hfailures⟩ := fogEvaluate_margins s.cfg.fog (marginInputs s) (readBinding s .fogBeam) s.fog
  have hmarginState := fogEvaluate_marginState s.cfg.fog (marginInputs s) (readBinding s .fogBeam) s.fog
  have hown := fogEvaluate_ownState s.cfg.fog (marginInputs s) (readBinding s .fogBeam) s.fog
  obtain ⟨hview, -⟩ := fogEvaluate_keeps s.cfg.fog (marginInputs s) (readBinding s .fogBeam) s.fog
  obtain ⟨g, -, hg, hgactive, hgbelow, hgclear, hfbeam, hfactive, hfbelow, hfclear⟩ :=
    fogEvaluate_beam s.cfg.fog (marginInputs s) (readBinding s .fogBeam) s.fog
  rw [← hf] at hdew hmargin heffective hfailures hmarginState hown hview hfbeam hfactive hfbelow hfclear
  have htdew : t.fog.dewPoint = f.dewPoint := by rw [hfog]
  have htmargin : t.fog.margin = f.margin := by rw [hfog]
  have hteffective : t.fog.effective = f.effective := by rw [hfog]
  have htfailures : t.fog.failureCount = f.failureCount := by rw [hfog]
  have htstate : t.fog.marginState = f.marginState := by rw [hfog]
  have htbeam : t.fog.beamFog = f.beamFog := by rw [hfog]
  have htown : t.fog.own = f.own := by rw [hfog]
  have htview : t.fog.floodInView = s.fog.floodInView := by rw [hfog, ← hview]
  obtain ⟨-, -, ⟨hhigh, hentries, hattained⟩, hfan, -, hregen⟩ := htlegal
  rw [hpeers] at hentries hattained
  rw [hcfg] at hregen
  obtain ⟨hregen', hcurtail⟩ := hregen (by rw [hstate]; exact ne_unset_of_operating hop)
  refine ⟨t, judgeMargin s.cfg.fog t.fog.effective s.fog.marginState, hexec, hpeers, fun bt rh il hbt hrh hil => ?_, fun hunbound => ?_,
    fun hnobeam => ?_, htview, by rw [htown, htbeam, htstate, hown], hhigh, hentries, hattained, hregen', hcurtail, hfan⟩
  · obtain ⟨x, hx⟩ : ∃ x, x = MarginInputs.mk bt rh il := ⟨_, rfl⟩
    have hinputs : marginInputs s = some x := by rw [hx]; exact marginInputs_of_some hbt hrh hil
    have hfailed : x.anyFailed = true ↔ bt.quality = .failed ∨ rh.quality = .failed ∨ il.quality = .failed := by
      rw [hx]
      exact anyFailed_iff _
    rw [hinputs] at hdew hmargin heffective hfailures hmarginState
    have hcount : f.failureCount = if x.anyFailed then min 61 (s.fog.failureCount + 1) else 0 := hfailures
    have hdew' : f.dewPoint = if x.anyFailed then s.fog.dewPoint else dewPointOf x.bowl.value x.humidity.value := hdew
    have hmargin' : f.margin = if x.anyFailed then s.fog.margin else fogMargin x.layer.value f.dewPoint := by rw [hdew]; exact hmargin
    have heffective' : f.effective = effectiveMargin s.cfg.fog f.margin s.fog.floodInView := by rw [hmargin]; exact heffective
    have hjudged : (s.fog.judged s.cfg.fog (some x)).marginState =
        unavailabilityFloor f.failureCount (judgeMargin s.cfg.fog f.effective s.fog.marginState) := by rw [hfailures, heffective]; rfl
    obtain ⟨hclear, hwatch, hact⟩ := judgeMargin_cases s.cfg.fog t.fog.effective s.fog.marginState
    refine ⟨fun h1 h2 h3 => ?_, fun hbad => ?_, ?_, hclear, hwatch, hact, fun hstays => ?_, fun hbad hsixty => ?_⟩
    · have hgood : ¬x.anyFailed = true := fun h => (hfailed.mp h).elim h1 fun h => h.elim h2 h3
      rw [if_neg hgood] at hcount hdew' hmargin'
      refine ⟨htfailures.trans hcount, ?_, ?_⟩
      · rw [htdew, hdew', dewPointOf_eq, hx]
      · rw [htmargin, hmargin', htdew, fogMargin, clamp, hx]
    · rw [if_pos (hfailed.mpr hbad)] at hcount hdew' hmargin'
      exact ⟨htfailures.trans hcount, htdew.trans hdew', htmargin.trans hmargin'⟩
    · rw [hteffective, htmargin, heffective', effectiveMargin_eq]
    · rw [htbeam] at hstays
      rw [htstate, hmarginState, if_neg, hjudged, unavailabilityFloor, hteffective, htfailures]
      rintro ⟨hset, hgone⟩
      rw [hset, hgone] at hstays
      exact hstays.elim nofun nofun
    · rw [if_pos (hfailed.mpr hbad), hsixty] at hcount
      rw [hexec, ← heval]
      refine takenIf_of_true ?_
      rw [heval, htfailures, hcount, hsixty]
      simpa [State.operating] using hop
  · rw [marginInputs_of_unbound hunbound] at hdew hmargin heffective hfailures hmarginState
    refine ⟨?_, htdew.trans hdew, htmargin.trans hmargin, hteffective.trans heffective, htfailures.trans hfailures⟩
    rw [htstate, hmarginState]
    exact ite_self _
  · rw [hnobeam] at hfbeam hfactive hfbelow hfclear
    have hbeam : f.beamFog = s.fog.beamFog := hfbeam.trans hg
    refine ⟨htbeam.trans hbeam, ?_, ?_, ?_, ?_⟩
    · rw [hfog]
      exact hfactive.trans hgactive
    · rw [hfog]
      exact hfbelow.trans hgbelow
    · rw [hfog]
      exact hfclear.trans hgclear
    · rw [hbeam, if_neg (by rintro ⟨hclear, hset⟩; rw [hclear] at hset; cases hset)] at hcauses
      rw [hbeam, if_neg fun h => h.2 rfl] at hplace
      rw [hcauses.zero_eq, hplace] at hreaches
      exact hreaches

/-- The judgement without hysteresis on leaving beam fog, with a margin path and without (R79, R81). -/
theorem marginOnLeaving_cases (cfg : FogConfig) (hasMargin : Bool) (f : FogLive) :
    (hasMargin = false → marginOnLeaving cfg hasMargin f = .clear) ∧
    (hasMargin = true → f.effective ≤ cfg.act → marginOnLeaving cfg hasMargin f = .act) ∧
    (hasMargin = true → cfg.act < f.effective → f.effective ≤ cfg.watch → marginOnLeaving cfg hasMargin f = .watch) ∧
    (hasMargin = true → cfg.act < f.effective → cfg.watch < f.effective →
      marginOnLeaving cfg hasMargin f = if f.failureCount = 61 then .watch else .clear) := by
  have hfloor : ∀ level, level ≠ .clear → unavailabilityFloor f.failureCount level = level := fun level h => if_neg fun hc => h hc.2
  refine ⟨?_, ?_, ?_, ?_⟩
  · rintro rfl
    rfl
  · rintro rfl hact
    rw [marginOnLeaving, if_pos rfl, judgePlain, if_pos hact, hfloor _ (by decide)]
  · rintro rfl hact hwatch
    rw [marginOnLeaving, if_pos rfl, judgePlain, if_neg (Int.not_le.mpr hact), if_pos hwatch, hfloor _ (by decide)]
  · rintro rfl hact hwatch
    rw [marginOnLeaving, if_pos rfl, judgePlain, if_neg (Int.not_le.mpr hact), if_neg (Int.not_le.mpr hwatch), unavailabilityFloor]
    exact if_congr (and_iff_left rfl) rfl rfl

/-- A state that is FOG makes E FOG, and the fan on (R85, R87). -/
theorem FogLegal.of_beamFog {t : State} (h : FogLegal t) (hbeam : t.fog.beamFog = true) :
    t.fog.effectiveLevel = .fog ∧ t.fog.fanDemand = true := by
  obtain ⟨-, hown, ⟨hhigh, -, -⟩, hfan, -, -⟩ := h
  rw [hown.mpr hbeam] at hhigh
  have hlevel : t.fog.effectiveLevel = .fog := by
    cases hx : t.fog.effectiveLevel <;> rw [hx] at hhigh <;> revert hhigh <;> decide
  exact ⟨hlevel, hfan.mpr (by rw [hlevel]; decide)⟩

/-- Settles O55: the beam step by the reading and the runs, and what its change calls for. -/
theorem beamFogIsSetAndCleared : Obligations.BeamFogIsSetAndCleared := by
  intro s b hop hlegal hb
  obtain ⟨f, t, hf, heval, htlegal, hfog, hreaches, hcauses, hplace⟩ := evaluateFog_reaches hlegal
  have hexec : exec .fogEvaluation s = .next t := by rw [exec_fogEvaluation hop, heval]
  obtain ⟨-, -, heffective, hfailures⟩ := fogEvaluate_margins s.cfg.fog (marginInputs s) (readBinding s .fogBeam) s.fog
  have hmarginState := fogEvaluate_marginState s.cfg.fog (marginInputs s) (readBinding s .fogBeam) s.fog
  have hown := fogEvaluate_ownState s.cfg.fog (marginInputs s) (readBinding s .fogBeam) s.fog
  obtain ⟨g, -, hg, -, hgbelow, hgclear, hfbeam, hfactive, hfbelow, hfclear⟩ :=
    fogEvaluate_beam s.cfg.fog (marginInputs s) (readBinding s .fogBeam) s.fog
  obtain ⟨hplain, hact, hwatch, hclear⟩ := marginOnLeaving_cases s.cfg.fog (marginInputs s).isSome (s.fog.judged s.cfg.fog (marginInputs s))
  rw [← hf] at heffective hfailures hmarginState hown hfbeam hfactive hfbelow hfclear
  rw [hb] at hfbeam hfactive hfbelow hfclear
  rw [marginInputs_isSome] at hplain hact hwatch hclear hmarginState hfbeam hfactive hfbelow hfclear
  rw [← heffective] at hact hwatch hclear
  rw [← hfailures] at hclear
  have htbeam : t.fog.beamFog = f.beamFog := by rw [hfog]
  have htactive : t.fog.beamActive = f.beamActive := by rw [hfog]
  have htbelow : t.fog.belowRun = f.belowRun := by rw [hfog]
  have htclear : t.fog.clearRun = f.clearRun := by rw [hfog]
  have htstate : t.fog.marginState = f.marginState := by rw [hfog]
  have hteffective : t.fog.effective = f.effective := by rw [hfog]
  have htfailures : t.fog.failureCount = f.failureCount := by rw [hfog]
  have htown : t.fog.own = f.own := by rw [hfog]
  rw [← htbeam] at hcauses hplace hfbeam hmarginState hown
  rw [← htactive] at hfactive
  rw [← htbelow] at hfbelow
  rw [← htclear] at hfclear
  rw [← htstate] at hmarginState hown
  rw [← hteffective] at hact hwatch hclear
  rw [← htfailures] at hclear
  rw [← htown] at hown
  refine ⟨t, hexec, hreaches, fun hfailed => ?_, fun hgood => ?_, fun hgood hunset => ⟨fun habove => ?_, fun hbelow hshort => ?_,
    fun hbelow hlong => ?_⟩, fun hgood hset => ⟨fun hbelow => ?_, fun habove hshort => ?_, fun habove hlong => ?_⟩,
    fun hset hgone => ?_, hown, hcauses, hplace⟩
  · rw [beamStep_of_failed hfailed] at hfbeam hfactive hfbelow hfclear
    exact ⟨hfactive, hfbelow, hfclear, hfbeam⟩
  · exact hfactive.trans (beamStep_active hgood)
  · rw [beamStep_of_watch hgood (hg.trans hunset), beamWatch_of_above habove] at hfbeam hfbelow
    exact ⟨hfbelow, hfbeam.trans (hg.trans hunset)⟩
  · rw [← hgbelow] at hshort ⊢
    rw [beamStep_of_watch hgood (hg.trans hunset), beamWatch_of_short hbelow hshort] at hfbeam hfbelow
    exact ⟨hfbelow, hfbeam.trans (hg.trans hunset)⟩
  · rw [← hgbelow] at hlong
    rw [beamStep_of_watch hgood (hg.trans hunset), beamWatch_of_sets hbelow hlong] at hfbeam hfbelow hfclear
    obtain ⟨hlevel, hfan⟩ := htlegal.of_beamFog hfbeam
    refine ⟨hfbeam, hfbelow, hfclear, hlevel, hfan, ?_⟩
    rw [hexec, ← heval]
    refine takenIf_of_true ?_
    rw [heval, hfbeam, hunset]
    simpa [State.operating] using hop
  · rw [beamStep_of_clearing hgood (hg.trans hset), beamClearing_of_below hbelow] at hfbeam hfclear
    exact ⟨hfclear, hfbeam.trans (hg.trans hset)⟩
  · rw [← hgclear] at hshort ⊢
    rw [beamStep_of_clearing hgood (hg.trans hset), beamClearing_of_short habove _ hshort] at hfbeam hfclear
    exact ⟨hfclear, hfbeam.trans (hg.trans hset)⟩
  · rw [← hgclear] at hlong
    rw [beamStep_of_clearing hgood (hg.trans hset), beamClearing_of_ends habove _ hlong] at hfbeam hfclear hfactive
    refine ⟨hfclear, hfbeam, ?_⟩
    rw [hexec, ← heval]
    refine takenIf_of_true ?_
    rw [heval, hfbeam, hset, hfactive]
    simpa [State.operating] using hop
  · rw [if_pos ⟨hset, hgone⟩] at hmarginState
    rw [hmarginState]
    exact ⟨hplain, hact, hwatch, hclear⟩

end Sys2Proof.Machine

/-!
PROOFS. Recovered heat (O57, O58): the offer, the demands, the grants and the duties of a period expiry, and the backup stages
(R93 to R111).
-/
namespace Sys2Proof.Machine

/-! ### What a share evaluation reaches -/

/-- Step 6 rewrites the loops of the heat record alone (R106). -/
theorem writeDuties_heat (s : State) : s.writeDuties.heat = { s.heat with loops := s.writeDuties.heat.loops } := by
  have hrest := foldl_keeps (fun t : State => ({ t.heat with loops := s.heat.loops } : HeatLive)) State.writeDuty (fun t n => by
    unfold State.writeDuty
    split <;> rfl) (List.finRange 4) s
  have hfolded : ({ s.writeDuties.heat with loops := s.heat.loops } : HeatLive) = s.heat := hrest
  exact congrArg (fun h : HeatLive => { h with loops := s.writeDuties.heat.loops }) hfolded

/-- Step 1 leaves the loops (R94). -/
theorem computeOffer_loops (s : State) : s.computeOffer.heat.loops = s.heat.loops := by
  unfold State.computeOffer
  split
  · unfold HeatLive.sourceStep
    dsimp only
    split <;> rfl
  · rfl

theorem readBinding_computeOffer (s : State) (b : Binding) : readBinding s.computeOffer b = readBinding s b := by
  simp [readBinding]

/-- A loop after step 2 (R96 to R100). -/
theorem computeDemands_loop (s : State) (n : Fin 4) : s.computeOffer.computeDemands.heat.loops[n.val] =
    (s.heat.loops[n.val]).demandStep s.cfg.loops[n.val] s.light.phase s.fog.regen s.fog.curtail (periodMs s.cfg)
      (readBinding s (.loopT n)) := by
  simp only [State.computeDemands, State.setHeat_heat, mapAt_getElem, computeOffer_loops, readBinding_computeOffer, computeOffer_frame,
    Fin.getElem_fin]

/-- A loop after the whole evaluation: its demand, then its grant and its duty (R93). -/
theorem evaluateShare_loop (s : State) (n : Fin 4) : s.evaluateShare.heat.loops[n.val] =
    { s.computeOffer.computeDemands.heat.loops[n.val] with
      grant := ownGrant s.computeOffer.computeDemands n
      duty := if (s.cfg.loops[n.val]).cls.isSome then dutyOf (s.cfg.loops[n.val]).design (ownGrant s.computeOffer.computeDemands n)
        else (s.computeOffer.computeDemands.heat.loops[n.val]).duty } := by
  have hgrant : s.computeOffer.computeDemands.computeGrants.heat.loops[n.val] =
      { s.computeOffer.computeDemands.heat.loops[n.val] with grant := ownGrant s.computeOffer.computeDemands n } := by
    simp only [State.computeGrants, State.setHeat_heat, mapAt_getElem]
  rw [State.evaluateShare, writeDuties_loops, hgrant]
  simp only [computeGrants_frame, computeDemands_frame, computeOffer_frame]
  split <;> rfl

/-- What the evaluation leaves of the heat record as step 1 formed it, and the summary (R94, R111). -/
theorem evaluateShare_heat (s : State) : s.evaluateShare.heat = { s.computeOffer.heat with
    loops := s.evaluateShare.heat.loops
    summary := summaryOf (viewOffer s.computeOffer.computeDemands) (viewRecords s.computeOffer.computeDemands) } :=
  writeDuties_heat s.computeOffer.computeDemands.computeGrants

/-- The grants stand while the duties are written (R106). -/
theorem foldl_writeDuty_grant (l : List (Fin 4)) (s : State) (n : Fin 4) :
    ((l.foldl State.writeDuty s).heat.loops[n.val]).grant = (s.heat.loops[n.val]).grant := by
  refine foldl_keeps (fun t : State => (t.heat.loops[n.val]).grant) _ (fun t m => ?_) l s
  unfold State.writeDuty
  split
  · simp only [writeValve_frame, State.setHeat_heat, setAt_getElem]
    split
    · rename_i e
      obtain rfl := Fin.ext e
      rfl
    · rfl
  · rfl

/-- The duties as they are written to the valve generators (R92, R106). -/
theorem writeDuties_valves (s : State) :
    ValvesWritten s s.writeDuties fun n => dutyOf (s.cfg.loops[n.val]).design (s.heat.loops[n.val]).grant := by
  intro v
  obtain ⟨hnone, hone⟩ := foldl_valves State.writeDuty (fun n => dutyOf (s.cfg.loops[n.val]).design (s.heat.loops[n.val]).grant) s
    (fun t n => by simp)
    (fun t n hn => by
      have hcls : (t.cfg.loops[n]).cls = none := hn
      rw [State.writeDuty, if_neg (by rw [hcls]; decide)])
    (fun t n hcfg hn hprefix => by
      obtain ⟨l, rfl, -⟩ := hprefix
      have hcls : ((l.foldl State.writeDuty s).cfg.loops[n]).cls.isSome = true := Option.isSome_iff_ne_none.mpr hn
      have hgrant := foldl_writeDuty_grant l s n
      rw [State.writeDuty, if_pos hcls, ← hgrant, ← hcfg]
      rfl)
    (List.finRange 4) (List.nodup_finRange 4) v
  exact ⟨fun h => hnone fun n _ => h n, fun n hn hv hm => hone n (List.mem_finRange n) hn hv fun m _ => hm m⟩

/-! ### The summary -/

/-- The classes in the order they are served (R103). -/
def servedClasses : List HeatClass := [.heave, .dry, .stand, .melt]

theorem classField_lt (c : HeatClass) : classField c < servedClasses.length := by cases c <;> decide

/-- A class is served at the place that its field names (R103, R171). -/
theorem servedClasses_getElem (c : HeatClass) : servedClasses[classField c]'(classField_lt c) = c := by cases c <;> rfl

theorem classField_servedClasses (i : Nat) (h : i < servedClasses.length) : classField servedClasses[i] = i := by
  have hall : ∀ k : Fin 4, classField (servedClasses[k.val]'k.isLt) = k.val := by decide
  exact hall ⟨i, h⟩

/-- The cut falls in the first class that exceeds what it meets (R103). -/
theorem cutClass_iff (offer : Nat) (records : List Demand) (c : HeatClass) : cutClass offer records = some c ↔
    remainderBefore offer records c < classTotal records c ∧
      ∀ c', classField c' < classField c → classTotal records c' ≤ remainderBefore offer records c' := by
  have hfind : cutClass offer records =
      servedClasses.find? fun c => decide (remainderBefore offer records c < classTotal records c) := rfl
  rw [hfind, List.find?_eq_some_iff_getElem, decide_eq_true_eq]
  refine and_congr_right fun _ => ⟨?_, fun h => ⟨classField c, classField_lt c, servedClasses_getElem c, fun j hj => ?_⟩⟩
  · rintro ⟨i, hi, rfl, hbefore⟩ c' hc'
    rw [classField_servedClasses] at hc'
    have hfits := hbefore (classField c') hc'
    rw [servedClasses_getElem] at hfits
    simpa using hfits
  · have hj' : j < servedClasses.length := hj.trans (classField_lt c)
    have hfits := h servedClasses[j] (by rwa [classField_servedClasses])
    simpa using hfits

/-- No cut falls where every class fits (R103). -/
theorem cutClass_none_iff (offer : Nat) (records : List Demand) :
    cutClass offer records = none ↔ ∀ c, classTotal records c ≤ remainderBefore offer records c := by
  unfold cutClass
  rw [List.find?_eq_none]
  constructor
  · intro h c
    have hmem : c ∈ [HeatClass.heave, .dry, .stand, .melt] := by cases c <;> decide
    simpa using h c hmem
  · intro h c _
    simpa using h c

/-! ### The offer -/

/-- A node without a source offers nothing, without doubt (R90, R95). -/
theorem computeOffer_of_none {s : State}
    (h : readBinding s .sourceSupplyT = none ∨ readBinding s .sourceReturnT = none ∨ readBinding s .sourceFlow = none) :
    s.computeOffer = s.setHeat { s.heat with offer := 0, offerDoubt := false } := by
  unfold State.computeOffer
  split
  · rename_i hx hy hq
    rw [hx, hy, hq] at h
    exact absurd h (by simp)
  · rfl

/-- A node with a source offers by its three readings (R94). -/
theorem computeOffer_of_some {s : State} {x y q : Reading} (hx : readBinding s .sourceSupplyT = some x)
    (hy : readBinding s .sourceReturnT = some y) (hq : readBinding s .sourceFlow = some q) :
    s.computeOffer = s.setHeat (s.heat.sourceStep s.cfg.source x y q) := by
  simp only [State.computeOffer, hx, hy, hq]

/-- A source input that reads FAILED (R95). -/
theorem sourceStep_of_failed {h : HeatLive} {cfg : SourceConfig} {x y q : Reading}
    (hbad : x.quality = .failed ∨ y.quality = .failed ∨ q.quality = .failed) : h.sourceStep cfg x y q =
      { h with flow := q.value, drop := x.value - y.value, offer := 0, offerDoubt := true } := if_pos hbad

/-- Three usable source inputs (R94). -/
theorem sourceStep_of_good {h : HeatLive} {cfg : SourceConfig} {x y q : Reading}
    (hgood : ¬(x.quality = .failed ∨ y.quality = .failed ∨ q.quality = .failed)) : h.sourceStep cfg x y q =
      { h with
        flow := q.value, drop := x.value - y.value
        rawOffer := rawOfferOf q.value (x.value - y.value) cfg.capacity
        offer := offerOf (rawOfferOf q.value (x.value - y.value) cfg.capacity) cfg.fraction
        offerDoubt := decide (x.quality = .doubt) || decide (y.quality = .doubt) || decide (q.quality = .doubt) } := if_neg hgood

/-- The raw offer of a positive drop (R94). -/
theorem rawOfferOf_cast {flow drop : Int} (hdrop : 0 < drop) (hflow : 0 ≤ flow) (capacity : Nat) :
    ((rawOfferOf flow drop capacity : Nat) : Int) = flow * drop * capacity / 10000 := by
  rw [rawOfferOf, if_neg (Int.not_le.mpr hdrop), floorDiv, Int.fdiv_eq_ediv_of_nonneg _ (by decide)]
  refine Int.toNat_of_nonneg (Int.ediv_nonneg ?_ (by decide))
  positivity

/-! ### The demands -/

theorem demandStep_of_unconfigured {l : LoopLive} {cfg : LoopConfig} (h : cfg.cls = none) (phase : Phase) (regen curtail period : Nat)
    (r : Option Reading) : l.demandStep cfg phase regen curtail period r = l := by
  simp only [LoopLive.demandStep, h]

theorem demandStep_of_dry {l : LoopLive} {cfg : LoopConfig} (h : cfg.cls = some .dry) (phase : Phase) (regen curtail period : Nat)
    (r : Option Reading) : l.demandStep cfg phase regen curtail period r = l.dryDemand cfg regen := by
  cases r <;> simp only [LoopLive.demandStep, h]

theorem demandStep_of_reading {l : LoopLive} {cfg : LoopConfig} {cls : HeatClass} (h : cfg.cls = some cls) (hdry : cls ≠ .dry)
    (phase : Phase) (regen curtail period : Nat) (r : Reading) : l.demandStep cfg phase regen curtail period (some r) =
      if r.quality = .failed then l.failDemand cfg cls curtail period r else l.computeDemand cfg cls phase curtail r := by
  cases cls with
  | dry => exact absurd rfl hdry
  | heave => simp only [LoopLive.demandStep, h]
  | stand => simp only [LoopLive.demandStep, h]
  | melt => simp only [LoopLive.demandStep, h]

/-- A STAND loop's demand is under the curtail (R98). -/
theorem curtailed_eq (cls : HeatClass) (curtail d : Nat) : curtailed cls curtail d = if cls = .stand then d * curtail / 1000 else d := by
  cases cls <;> rfl

/-- The first expiry that reads FAILED holds the demand (R99). -/
theorem failDemand_of_first {l : LoopLive} (h : l.failureTimer = none) (cfg : LoopConfig) (cls : HeatClass) (curtail period : Nat)
    (r : Reading) : l.failDemand cfg cls curtail period r =
      { l with temperature := r.value, failureTimer := some 0, held := l.demand, kind := .held } := by
  simp only [LoopLive.failDemand, h]

/-- The demand is held while the failure timer is below 60 s (R99). -/
theorem failDemand_of_held {l : LoopLive} {τ period : Nat} (h : l.failureTimer = some τ) (hbelow : τ + period < 60000) (cfg : LoopConfig)
    (cls : HeatClass) (curtail : Nat) (r : Reading) : l.failDemand cfg cls curtail period r =
      { l with temperature := r.value, failureTimer := some (min 60000 (τ + period)), demand := l.held, kind := .held } := by
  simp only [LoopLive.failDemand, h]
  exact if_pos (by rw [timerAfter]; omega)

/-- From 60 s on it is the fallback (R99). -/
theorem failDemand_of_fallback {l : LoopLive} {τ period : Nat} (h : l.failureTimer = some τ) (hend : 60000 ≤ τ + period) (cfg : LoopConfig)
    (cls : HeatClass) (curtail : Nat) (r : Reading) : l.failDemand cfg cls curtail period r =
      { l with
        temperature := r.value, failureTimer := some (min 60000 (τ + period))
        demand := curtailed cls curtail (min cfg.fallback cfg.design), kind := .fallback } := by
  simp only [LoopLive.failDemand, h]
  exact if_neg (by rw [timerAfter]; omega)

/-- The demand of a loop whose reading is FAILED, by its failure timer (R99). -/
theorem failDemand_spec (l : LoopLive) (k : LoopConfig) (cls : HeatClass) (curtail period : Nat) (r : Reading) :
    (l.failDemand k cls curtail period r).temperature = r.value ∧ (l.failDemand k cls curtail period r).shortfall = l.shortfall ∧
      (l.failureTimer = none → (l.failDemand k cls curtail period r).failureTimer = some 0 ∧
        (l.failDemand k cls curtail period r).held = l.demand ∧ (l.failDemand k cls curtail period r).demand = l.demand ∧
        (l.failDemand k cls curtail period r).kind = .held) ∧
      ∀ τ, l.failureTimer = some τ → (l.failDemand k cls curtail period r).held = l.held ∧
        (l.failDemand k cls curtail period r).failureTimer = some (min 60000 (τ + period)) ∧
        (τ + period < 60000 → (l.failDemand k cls curtail period r).demand = l.held ∧
          (l.failDemand k cls curtail period r).kind = .held) ∧
        (60000 ≤ τ + period → (l.failDemand k cls curtail period r).kind = .fallback ∧
          (l.failDemand k cls curtail period r).demand =
            if cls = .stand then min k.fallback k.design * curtail / 1000 else min k.fallback k.design) := by
  cases htimer : l.failureTimer with
  | none =>
    rw [failDemand_of_first htimer]
    exact ⟨rfl, rfl, fun _ => ⟨rfl, rfl, rfl, rfl⟩, nofun⟩
  | some τ =>
    by_cases hbelow : τ + period < 60000
    · rw [failDemand_of_held htimer hbelow]
      refine ⟨rfl, rfl, nofun, fun τ' hτ => ?_⟩
      cases hτ
      exact ⟨rfl, rfl, fun _ => ⟨rfl, rfl⟩, fun hend => absurd hbelow (Nat.not_lt.mpr hend)⟩
    · rw [failDemand_of_fallback htimer (Nat.not_lt.mp hbelow), curtailed_eq]
      refine ⟨rfl, rfl, nofun, fun τ' hτ => ?_⟩
      cases hτ
      exact ⟨rfl, rfl, fun h => absurd h hbelow, fun _ => ⟨rfl, rfl⟩⟩

/-- The share of the design heat that the shortfall asks for (R96). -/
theorem floorDiv_toNat {design band d : Nat} {e : Int} (h : (d : Int) = (design : Int) * e / band) :
    (floorDiv ((design : Int) * e) (band : Int)).toNat = d := by
  rw [floorDiv, Int.fdiv_eq_ediv_of_nonneg _ (Int.natCast_nonneg band), ← h, Int.toNat_natCast]

/-- No demand step reaches the backup stage (R96 to R99, R107). -/
theorem demandStep_keeps (l : LoopLive) (cfg : LoopConfig) (phase : Phase) (regen curtail period : Nat) (r : Option Reading) :
    (l.demandStep cfg phase regen curtail period r).backup = l.backup ∧
      (l.demandStep cfg phase regen curtail period r).holdCount = l.holdCount ∧
      (l.demandStep cfg phase regen curtail period r).deficit = l.deficit := by
  unfold LoopLive.demandStep LoopLive.dryDemand LoopLive.failDemand LoopLive.computeDemand
  dsimp only
  (repeat' split) <;> exact ⟨rfl, rfl, rfl⟩

/-- An unconfigured loop is granted nothing (R105). -/
theorem ownGrant_of_unconfigured {s : State} {n : Fin 4} (h : (s.cfg.loops[n.val]).cls = none) : ownGrant s n = 0 := by
  have hrecord : demandRecord s n = none := by simp [demandRecord, h]
  simp only [ownGrant, hrecord]

/-- In RUN a configured loop is granted by the share evaluation over the node's view (R103, R105). -/
theorem ownGrant_of_run {s : State} {n : Fin 4} {cls : HeatClass} (h : (s.cfg.loops[n.val]).cls = some cls) (hrun : s.node.state = .run) :
    ownGrant s n = grantOf (viewOffer s) (viewRecords s)
      { cls := cls, loop := n, amount := (s.heat.loops[n.val]).demand, doubt := decide ((s.heat.loops[n.val]).kind ≠ .computed) } := by
  have hdoubt : kindDoubt (s.heat.loops[n.val]).kind = decide ((s.heat.loops[n.val]).kind ≠ .computed) := by
    cases (s.heat.loops[n.val]).kind <;> rfl
  have hrecord : demandRecord s n = some
      { cls := cls, loop := n, amount := (s.heat.loops[n.val]).demand, doubt := decide ((s.heat.loops[n.val]).kind ≠ .computed) } := by
    simp [demandRecord, h, ← hdoubt]
  simp only [ownGrant, hrecord, hrun, if_true]

/-- The demand of a loop whose reading is usable (R96, R98). -/
theorem computeDemand_demand {l : LoopLive} {cfg : LoopConfig} {cls : HeatClass} {phase : Phase} {curtail d : Nat} {r : Reading}
    (h : (d : Int) = (cfg.design : Int) * shortfallOf cfg phase r.value / cfg.band) :
    (l.computeDemand cfg cls phase curtail r).demand = if cls = .stand then d * curtail / 1000 else d := by
  rw [LoopLive.computeDemand, floorDiv_toNat h, curtailed_eq]

/-- Settles O57: the heat record as the evaluation forms it, by the readings, the classes and the timers. -/
theorem expiryComputesOfferDemandsAndDuties : Obligations.ExpiryComputesOfferDemandsAndDuties := by
  intro s hop
  obtain ⟨t, ht⟩ : ∃ t, t = s.expirePeriod := ⟨_, rfl⟩
  obtain ⟨w, hw⟩ : ∃ w, w = s.computeOffer.computeDemands := ⟨_, rfl⟩
  have hexec : exec .statusPeriodExpiry s = .next t := by rw [ht]; exact exec_statusPeriodExpiry hop
  have hheat : t.heat = { s.computeOffer.heat with
      loops := t.heat.loops, summary := summaryOf (viewOffer w) (viewRecords w) } := by
    have hshare : t.heat = s.evaluateShare.heat := by simp [ht, State.expirePeriod]
    have h := evaluateShare_heat s
    rwa [← hshare, ← hw] at h
  have hloop : ∀ n : Fin 4, t.heat.loops[n.val] = { w.heat.loops[n.val] with
      grant := ownGrant w n
      duty := if (s.cfg.loops[n.val]).cls.isSome then dutyOf (s.cfg.loops[n.val]).design (ownGrant w n)
        else (w.heat.loops[n.val]).duty } := fun n => by
    have hshare : t.heat = s.evaluateShare.heat := by simp [ht, State.expirePeriod]
    rw [hshare, hw]
    exact evaluateShare_loop s n
  have hdemands : ∀ n : Fin 4, w.heat.loops[n.val] = (s.heat.loops[n.val]).demandStep s.cfg.loops[n.val] s.light.phase s.fog.regen
      s.fog.curtail (periodMs s.cfg) (readBinding s (.loopT n)) := fun n => by rw [hw]; exact computeDemands_loop s n
  have hcfg : w.cfg = s.cfg := by simp [hw]
  have hpeers : w.peers = s.peers := by simp [hw]
  have hstate : w.node.state = s.node.state := by simp [hw]
  have hwheat : w.heat.offer = s.computeOffer.heat.offer ∧ w.heat.offerDoubt = s.computeOffer.heat.offerDoubt := by rw [hw]; exact ⟨rfl, rfl⟩
  have hsummary : t.heat.summary = summaryOf (viewOffer w) (viewRecords w) := by rw [hheat]
  refine ⟨t, viewOffer w, viewRecords w, hexec, ?_, ?_, fun T R hT hheave hdry hstand hmelt => ?_, fun hnone => ?_,
    fun x y q hx hy hq => ?_, fun n l l' k hl hl' hk => ?_, ?_, ?_⟩
  · rw [viewOffer, hpeers, hwheat.1, hwheat.2, hheat]
    rfl
  · rw [viewRecords, ownDemands_eq hcfg, hpeers]
    simp only [hloop]
  · obtain ⟨rfl, rfl⟩ := totals_remainders_unique hT hheave hdry hstand hmelt
    rw [hsummary]
    exact ⟨⟨rfl, rfl, rfl, rfl, rfl, rfl, rfl⟩, cutClass_none_iff _ _, cutClass_iff _ _⟩
  · rw [hheat, computeOffer_of_none hnone]
    exact ⟨rfl, rfl⟩
  · rw [hheat, computeOffer_of_some hx hy hq, State.setHeat_heat]
    by_cases hbad : x.quality = .failed ∨ y.quality = .failed ∨ q.quality = .failed
    · rw [sourceStep_of_failed hbad]
      refine ⟨rfl, rfl, fun _ => ⟨rfl, rfl⟩, fun hgx hgy hgq => ?_⟩
      exact absurd hbad (by simp [hgx, hgy, hgq])
    · rw [sourceStep_of_good hbad]
      refine ⟨rfl, rfl, fun h => absurd h hbad, fun _ _ _ => ⟨fun hdrop => ?_, fun hdrop hflow => rawOfferOf_cast hdrop hflow _, rfl, ?_⟩⟩
      · exact if_pos hdrop
      · simp [or_assoc]
  · have hm := hdemands n
    have hlp := hloop n
    have hperiod : periodMs s.cfg = 250 * (s.cfg.node.period + 1) := rfl
    rw [hl, hk, hperiod] at hm
    rw [hl', hk] at hlp
    obtain ⟨m, hwm⟩ : ∃ m, m = w.heat.loops[n.val] := ⟨_, rfl⟩
    rw [← hwm] at hm hlp
    have hwcls : (w.cfg.loops[n.val]).cls = k.cls := by rw [hcfg, hk]
    obtain ⟨hbackup, hcount, hdeficit⟩ := demandStep_keeps l k s.light.phase s.fog.regen s.fog.curtail (250 * (s.cfg.node.period + 1))
      (readBinding s (.loopT n))
    rw [← hm] at hbackup hcount hdeficit
    refine ⟨fun hnone => ?_, fun hdry => ?_, fun cls r hcls hdry hr => ?_, fun hnot => ?_, fun cls hrun hcls => ?_, fun hcls => ?_, ?_, ?_, ?_⟩
    · rw [hlp, ownGrant_of_unconfigured (hwcls.trans hnone), hnone, hm, demandStep_of_unconfigured hnone]
      rfl
    · rw [hlp, hm, demandStep_of_dry hdry]
      exact ⟨rfl, rfl, rfl, rfl, rfl, rfl⟩
    · rw [hr, demandStep_of_reading hcls hdry] at hm
      by_cases hfailed : r.quality = .failed
      · rw [if_pos hfailed] at hm
        obtain ⟨htemperature, hshortfall, hfirst, hlater⟩ := failDemand_spec l k cls s.fog.curtail (250 * (s.cfg.node.period + 1)) r
        rw [← hm] at htemperature hshortfall hfirst hlater
        rw [hlp]
        exact ⟨htemperature, fun h => absurd hfailed h, fun _ => ⟨hshortfall, hfirst, hlater⟩⟩
      · rw [if_neg hfailed] at hm
        rw [hlp, hm]
        exact ⟨rfl, fun _ => ⟨rfl, rfl, rfl, rfl, fun d _ hd => computeDemand_demand (l := l) hd⟩, fun h => absurd h hfailed⟩
    · rw [hlp]
      exact (ownGrant_le w n).2 (by rw [hstate]; exact hnot)
    · rw [hlp, ownGrant_of_run (hwcls.trans hcls) (hstate.trans hrun), ← hwm]
    · rw [hlp, if_pos (Option.isSome_iff_ne_none.mpr hcls)]
      rfl
    · rw [hlp]
      exact hbackup
    · rw [hlp]
      exact hcount
    · rw [hlp]
      exact hdeficit
  · have hgens : t.gens = w.computeGrants.writeDuties.gens := by
      have hshare : t.gens = s.evaluateShare.gens := by simp [ht, State.expirePeriod]
      rw [hshare, hw]
      rfl
    have hbefore : w.computeGrants.gens = s.gens := by simp [hw]
    have hxcfg : w.computeGrants.cfg = s.cfg := by simp [hw]
    have hgrants : ∀ n : Fin 4, (w.computeGrants.heat.loops[n.val]).grant = ownGrant w n := fun n => by simp [State.computeGrants]
    intro v
    obtain ⟨hnone, hone⟩ := writeDuties_valves w.computeGrants v
    rw [← hgens, hbefore, hxcfg] at hnone hone
    refine ⟨hnone, fun n hcls hv honly => ?_⟩
    rw [hone n hcls hv honly]
    dsimp only
    rw [hloop n, hgrants n]
    exact congrArg _ (if_pos (Option.isSome_iff_ne_none.mpr hcls)).symm
  · simp [ht, State.expirePeriod]

/-! ### Backup stages -/

theorem judgeBackup_of_unconfigured {l : LoopLive} {k : LoopConfig} (h : k.cls = none) : l.judgeBackup k = l :=
  if_pos (by rw [h]; rfl)

/-- A configured loop with a threshold of 0 is OFF (R107). -/
theorem judgeBackup_of_zero {l : LoopLive} {k : LoopConfig} (hcls : k.cls ≠ none) (h : k.threshold = 0) :
    l.judgeBackup k = { l with backup := false, holdCount := none } := by
  rw [LoopLive.judgeBackup, if_neg (by simpa using hcls), if_pos h]

/-- A loop that is ON stays so down to half the threshold (R109). -/
theorem judgeBackup_of_on {l : LoopLive} {k : LoopConfig} (hcls : k.cls ≠ none) (h : 0 < k.threshold) (hon : l.backup = true) :
    l.judgeBackup k = { l with
      deficit := l.demand - l.grant, holdCount := none, backup := decide (k.threshold / 2 ≤ l.demand - l.grant) } := by
  have hhalf : (!decide (l.deficitNow < k.threshold / 2)) = decide (k.threshold / 2 ≤ l.demand - l.grant) := by
    rw [← decide_not, decide_eq_decide]
    exact Nat.not_lt
  rw [LoopLive.judgeBackup, if_neg (by simpa using hcls), if_neg (Nat.ne_of_gt h), ← hhalf]
  exact if_pos hon

/-- A loop that is OFF below its threshold (R108). -/
theorem judgeBackup_of_below {l : LoopLive} {k : LoopConfig} (hcls : k.cls ≠ none) (h : 0 < k.threshold) (hoff : l.backup = false)
    (hbelow : l.demand - l.grant < k.threshold) : l.judgeBackup k = { l with deficit := l.demand - l.grant, holdCount := none } := by
  rw [LoopLive.judgeBackup, if_neg (by simpa using hcls), if_neg (Nat.ne_of_gt h)]
  exact (if_neg (by rw [hoff]; decide)).trans (if_pos hbelow)

/-- The hold count after one more expiry at or above the threshold (R108). -/
def nextHold (l : LoopLive) : Nat :=
  match l.holdCount with
  | none => 0
  | some c => c + 1

/-- A loop that is OFF at or above its threshold counts, and turns ON at the backup hold (R108). -/
theorem judgeBackup_of_above {l : LoopLive} {k : LoopConfig} (hcls : k.cls ≠ none) (h : 0 < k.threshold) (hoff : l.backup = false)
    (habove : k.threshold ≤ l.demand - l.grant) : l.judgeBackup k =
      if k.hold ≤ nextHold l then { l with deficit := l.demand - l.grant, backup := true, holdCount := none }
      else { l with deficit := l.demand - l.grant, holdCount := some (nextHold l) } := by
  rw [LoopLive.judgeBackup, if_neg (by simpa using hcls), if_neg (Nat.ne_of_gt h)]
  exact (if_neg (by rw [hoff]; decide)).trans (if_neg (Nat.not_lt.mpr habove))

/-- A loop's record after a backup expiry (R107). -/
theorem judgeBackups_loop (s : State) (n : Fin 4) :
    s.judgeBackups.heat.loops[n.val] = (s.heat.loops[n.val]).judgeBackup s.cfg.loops[n.val] := by
  simp [State.judgeBackups]

/-- A loop's condition turns ON at a backup expiry (R108). -/
theorem backupTurnsOn_iff (s : State) (n : Fin 4) : backupTurnsOn s n = true ↔
    (s.heat.loops[n.val]).backup = false ∧ (s.judgeBackups.heat.loops[n.val]).backup = true := by
  rw [judgeBackups_loop, backupTurnsOn, Bool.and_eq_true, Bool.not_eq_true']
  rfl

/-- Settles O58: each loop by its judgement, the raises by the loops that turn on, and the failure timer put at its end. -/
theorem backupStagesAreJudged : Obligations.BackupStagesAreJudged := by
  intro s hop
  refine ⟨?_, fun n τ htimer hbelow => ?_⟩
  · obtain ⟨t, ht⟩ : ∃ t, t = s.judgeBackups := ⟨_, rfl⟩
    have hexec : exec .backupExpiry s = .next t := by rw [ht]; exact takenIf_of_true hop
    have hloop : ∀ n : Fin 4, t.heat.loops[n.val] = (s.heat.loops[n.val]).judgeBackup s.cfg.loops[n.val] := fun n => by
      rw [ht]
      exact judgeBackups_loop s n
    have hfilter : (List.finRange 4).filter (backupTurnsOn s) = (List.finRange 4).filter fun n =>
        decide ((s.heat.loops[n.val]).backup = false ∧ (t.heat.loops[n.val]).backup = true) :=
      List.filter_congr fun n _ => by rw [Bool.eq_iff_iff, backupTurnsOn_iff, decide_eq_true_eq, ht]
    obtain ⟨u, hu⟩ : ∃ u, u = s.setHeat { s.heat with loops := mapAt s.heat.loops fun n l => l.judgeBackup s.cfg.loops[n] } := ⟨_, rfl⟩
    have htu : t = u.raiseTimes .backupOn ((List.finRange 4).filter (backupTurnsOn s)).length := by rw [ht, hu]; rfl
    have hreaches : t = (s.setHeat { s.heat with loops := t.heat.loops }).setNode { s.node with causes := t.node.causes } := by
      have h := raiseTimes_eq u .backupOn ((List.finRange 4).filter (backupTurnsOn s)).length
      rw [← htu] at h
      have hloops : t.heat.loops = mapAt s.heat.loops fun n l => l.judgeBackup s.cfg.loops[n] := by rw [h, hu]; rfl
      rw [hloops]
      refine h.trans ?_
      rw [hu]
      rfl
    have hcauses : CausesAfter s t 10 ((List.finRange 4).filter (backupTurnsOn s)).length := by
      have h := raiseTimes_after u .backupOn ((List.finRange 4).filter (backupTurnsOn s)).length
      rw [← htu] at h
      exact h.congr (by rw [hu]; rfl) rfl
    refine ⟨t, _, hexec, hreaches, hcauses, by rw [hfilter], fun n l l' k hl hl' hk => ?_⟩
    have hjudged := hloop n
    rw [hl, hl', hk] at hjudged
    rw [hjudged]
    refine ⟨judgeBackup_of_unconfigured, judgeBackup_of_zero, judgeBackup_of_on, judgeBackup_of_below,
      fun hcls hoff h habove count hcount => ?_⟩
    have hnext : count = nextHold l := by rw [hcount]; rfl
    have habove' := judgeBackup_of_above hcls h hoff habove
    rw [← hnext] at habove'
    refine ⟨fun hless => ?_, fun hfull => ?_⟩
    · rw [habove', if_neg (Nat.not_le.mpr hless)]
    · rw [if_pos hfull] at habove'
      refine ⟨habove', ?_⟩
      rw [hexec, ht]
      refine takenIf_of_true ?_
      rw [Bool.and_eq_true, backupTurnsOn_iff, ← ht, hl, hl', hjudged, habove']
      exact ⟨hop, hoff, rfl⟩
  · refine takenIf_of_true ?_
    have htimer' : (s.heat.loops[n]).failureTimer = some τ := htimer
    rw [htimer', Option.any_some, decide_eq_true hbelow, Bool.and_true]
    exact hop

end Sys2Proof.Machine

/-!
PROOFS. The output generators (O59): writes, period starts, the count and the strobe timer (R133 to R138).
-/
namespace Sys2Proof.Machine

/-! ### Writes and period starts -/

/-- A write to a RUNNING generator fills the inactive slot (R134). -/
theorem write_of_running {g : Generator} (h : g.running = true) (level : Nat) : g.write level = g.place level := if_pos h

theorem place_of_a {g : Generator} (h : g.active = .a) (level : Nat) : g.place level = { g with slotB := level, written := true } := by
  simp only [Generator.place, h]

theorem place_of_b {g : Generator} (h : g.active = .b) (level : Nat) : g.place level = { g with slotA := level, written := true } := by
  simp only [Generator.place, h]

/-- What a period start leaves, and what it sets (R135). -/
theorem periodStart_spec (g : Generator) :
    g.periodStart.running = g.running ∧ g.periodStart.slotA = g.slotA ∧ g.periodStart.slotB = g.slotB ∧ g.periodStart.written = false ∧
      g.periodStart.count = 0 ∧ g.periodStart.part = 0 ∧ (g.periodStart.active = g.active ↔ g.written = false) ∧
      (g.periodStart.active = .a → (g.periodStart.output = true ↔ 0 < g.periodStart.slotA)) ∧
      (g.periodStart.active = .b → (g.periodStart.output = true ↔ 0 < g.periodStart.slotB)) := by
  have houtput : g.periodStart.output = decide (0 < g.periodStart.activeLevel) := rfl
  refine ⟨rfl, rfl, rfl, rfl, rfl, rfl, ?_, fun ha => ?_, fun hb => ?_⟩
  · have hactive : g.periodStart.active = if g.written then otherSlot g.active else g.active := rfl
    rw [hactive]
    cases hwritten : g.written with
    | false => simp
    | true => cases g.active <;> simp [otherSlot]
  · rw [houtput, decide_eq_true_eq, Generator.activeLevel, ha]
  · rw [houtput, decide_eq_true_eq, Generator.activeLevel, hb]

/-- A period under way can end where no level of 1 to 999 is ahead of the count (R136). -/
theorem periodCanEnd_of_reached {g : Generator} (hrun : g.running = true)
    (h : g.activeLevel = 0 ∨ 1000 ≤ g.activeLevel ∨ g.activeLevel ≤ g.count) : g.periodCanEnd = true := by
  have hahead : g.levelAhead = false := by
    rw [← Bool.not_eq_true, levelAhead_iff]
    omega
  rw [Generator.periodCanEnd, hrun, hahead]
  rfl

/-- No period ends while the level is ahead (R136). -/
theorem periodCanEnd_of_ahead {g : Generator} (h : g.levelAhead = true) : g.periodCanEnd = false := by
  rw [Generator.periodCanEnd, h, Bool.not_true, Bool.and_false]

/-! ### The count -/

/-- An idle step inside a count time (log entry 7). -/
theorem elapse_of_part {g : Generator} {countTime : Nat} (hrun : g.running = true) (h : g.part + 1 < countTime) :
    g.elapse countTime = { g with part := g.part + 1 } := by
  rw [Generator.elapse, if_neg (by rw [hrun]; decide), if_pos h]

/-- The count stops before the event that a row brings (log entry 7). -/
theorem elapse_of_event {g : Generator} {countTime : Nat} (hrun : g.running = true) (h : countTime ≤ g.part + 1)
    (hevent : g.atEvent = true) : g.elapse countTime = g := by
  rw [Generator.elapse, if_neg (by rw [hrun]; decide), if_neg (Nat.not_lt.mpr h), if_pos hevent]

/-- A whole count time advances the count (R136). -/
theorem elapse_of_count {g : Generator} {countTime : Nat} (hrun : g.running = true) (h : countTime ≤ g.part + 1)
    (hevent : ¬g.atEvent = true) : g.elapse countTime = { g with count := g.count + 1, part := 0 } := by
  rw [Generator.elapse, if_neg (by rw [hrun]; decide), if_neg (Nat.not_lt.mpr h), if_neg hevent]

/-- The next count would reach the level, or end the period (R135, R136). -/
theorem atEvent_iff (g : Generator) : g.atEvent = true ↔ (g.levelAhead = true ∧ g.count + 1 = g.activeLevel) ∨ 999 ≤ g.count := by
  simp [Generator.atEvent]

theorem atEvent_of_next {g : Generator} (hrun : g.running = true) (hnext : g.count + 1 = g.activeLevel ∨ 999 ≤ g.count)
    (hlevel : g.activeLevel < 1000 ∨ 999 ≤ g.count) : g.atEvent = true := by
  rw [atEvent_iff, levelAhead_iff]
  by_cases hend : 999 ≤ g.count
  · exact .inr hend
  · exact .inl ⟨⟨hrun, by omega, by omega, by omega⟩, by omega⟩

theorem atEvent_of_other {g : Generator} (hnext : g.count + 1 ≠ g.activeLevel) (hcount : g.count < 999) : ¬g.atEvent = true := by
  rw [atEvent_iff]
  omega

/-! ### Strobes -/

theorem expire_of_more {x : Strobe} (h : 1 < x.counter) : x.expire = { x with counter := x.counter - 1 } := if_neg (by omega)

/-- The last count of a strobe's time changes between on-time and off-time (R138). -/
theorem expire_of_last {x : Strobe} (h : x.counter = 1) : (x.phase = .onTime → x.expire = { x with phase := .offTime, counter := x.offWidth }) ∧
    (x.phase = .offTime → x.expire = { x with phase := .onTime, counter := x.onWidth }) := by
  have hlast : x.counter - 1 = 0 := by omega
  refine ⟨fun hp => ?_, fun hp => ?_⟩
  · rw [Strobe.expire, if_pos hlast, hp]
  · rw [Strobe.expire, if_pos hlast, hp]

/-! ### The rows -/

theorem step_of_idle {s : State} (h : s.pending = []) : step s = .next s.elapse := by
  simp only [step, h]

/-- A period start where the period under way can end (R135). -/
theorem exec_periodStart {s : State} {g : GeneratorId} {x : Generator} (hx : generatorAt s g = x) (h : x.periodCanEnd = true) :
    exec (.generatorPeriodStart g) s = .next (s.setGenerator g x.periodStart) := by
  subst hx
  exact takenIf_of_true h

/-- The count that reaches a level ahead of it, before which no period ends (R136). -/
theorem exec_countReachesLevel {s : State} {g : GeneratorId} {x : Generator} (hx : generatorAt s g = x) (h : x.levelAhead = true) :
    exec (.generatorCountReachesLevel g) s = .next (s.setGenerator g x.reachLevel) ∧ exec (.generatorPeriodStart g) s = .next s := by
  subst hx
  exact ⟨takenIf_of_true h, takenIf_of_false (periodCanEnd_of_ahead h)⟩

/-- A dimmer generator after an idle step (log entry 7). -/
theorem elapse_dimmer (s : State) (n : Fin 8) :
    s.elapse.gens.dimmers[n.val] = { s.gens.dimmers[n.val] with gen := (s.gens.dimmers[n.val]).gen.elapse 1 } := by
  rw [State.elapse, State.setGens_gens, mapAt_getElem]

/-- A valve generator after an idle step (log entry 7). -/
theorem elapse_valve (s : State) (n : Fin 4) : s.elapse.gens.valves[n.val] = (s.gens.valves[n.val]).elapse 1000 := by
  rw [State.elapse, State.setGens_gens, mapAt_getElem]
  rfl

/-- Settles O59: a write by the run condition, then each generator's rows and its idle step. -/
theorem generatorsStepTheirPeriods : Obligations.GeneratorsStepTheirPeriods := by
  refine ⟨fun g level => ⟨fun hrun ha => ?_, fun hrun hb => ?_, ?_⟩, fun s => ⟨fun n d level hd hlevel => ?_, fun n v level hv hlevel => ?_⟩⟩
  · rw [write_of_running hrun, place_of_a ha]
  · rw [write_of_running hrun, place_of_b hb]
  · rintro rfl
    rfl
  · have hactive : level = d.gen.activeLevel := hlevel
    have hat : generatorAt s (.dimmer n) = d.gen := by
      rw [← hd]
      rfl
    have hset : ∀ g : Generator, s.setGenerator (.dimmer n) g = s.setGens { s.gens with
        dimmers := setAt s.gens.dimmers n { d with gen := g } } := fun g => by
      rw [← hd]
      rfl
    rw [hactive]
    refine ⟨fun hrun hends => ?_, fun hrun hleast hmost hahead => ?_, fun hidle hrun hpart => ?_, fun hstrobe => ?_⟩
    · refine ⟨d.gen.periodStart, ?_, hrun, ?_⟩
      · rw [exec_periodStart hat (periodCanEnd_of_reached hrun hends), hset]
      · obtain ⟨-, hrest⟩ := periodStart_spec d.gen
        exact hrest
    · obtain ⟨hreaches, hnone⟩ := exec_countReachesLevel hat ((levelAhead_iff d.gen).mpr ⟨hrun, hleast, hmost, hahead⟩)
      rw [hset] at hreaches
      exact ⟨hreaches, hnone⟩
    · have hcountTime : 1 ≤ d.gen.part + 1 := Nat.le_add_left 1 _
      have hafter := elapse_dimmer s n
      rw [hd] at hafter
      refine ⟨s.elapse, step_of_idle hidle, fun hnext hlast => ?_, fun hnext hcount => ?_⟩
      · rw [hafter, elapse_of_event hrun hcountTime (atEvent_of_next hrun hnext hlast)]
      · rw [hafter, elapse_of_count hrun hcountTime (atEvent_of_other hnext hcount), ← hpart]
    · have hactive' : (s.gens.dimmers[n]).strobe.active = true := by
        rw [← hd] at hstrobe
        exact hstrobe
      refine ⟨d.strobe.expire, ?_, expire_of_more, fun hlast => (expire_of_last hlast).1, fun hlast => (expire_of_last hlast).2⟩
      refine (takenIf_of_true hactive').trans ?_
      rw [← hd]
      rfl
  · have hactive : level = v.activeLevel := hlevel
    have hat : generatorAt s (.valve n) = v := hv
    have hset : ∀ g : Generator, s.setGenerator (.valve n) g = s.setGens { s.gens with valves := setAt s.gens.valves n g } := fun g => rfl
    rw [hactive]
    refine ⟨fun hrun hends => ?_, fun hrun hleast hmost hahead => ?_, fun hidle hrun => ?_⟩
    · refine ⟨v.periodStart, ?_, hrun, ?_⟩
      · rw [exec_periodStart hat (periodCanEnd_of_reached hrun hends), hset]
      · obtain ⟨-, hrest⟩ := periodStart_spec v
        exact hrest
    · obtain ⟨hreaches, hnone⟩ := exec_countReachesLevel hat ((levelAhead_iff v).mpr ⟨hrun, hleast, hmost, hahead⟩)
      rw [hset] at hreaches
      exact ⟨hreaches, hnone⟩
    · have hafter := elapse_valve s n
      rw [hv] at hafter
      refine ⟨s.elapse, step_of_idle hidle, fun hpart => ?_, fun hpart hnext hlevel => ?_, fun hpart hend => ?_,
        fun hpart hnext hcount => ?_⟩
      · rw [hafter, elapse_of_part hrun (by omega)]
      · rw [hafter, elapse_of_event hrun (by omega) (atEvent_of_next hrun (.inl hnext) (.inl hlevel))]
      · rw [hafter, elapse_of_event hrun (by omega) (atEvent_of_next hrun (.inr hend) (.inr hend))]
      · rw [hafter, elapse_of_count hrun (by omega) (atEvent_of_other hnext hcount)]

end Sys2Proof.Machine
